-- ==== Sys2Proof/Word.lean ====
section
/-! DEFINITION. The machine word of the block and its plainest arithmetic (`spec/00_scope.md` R12, R13). -/

namespace Sys2Proof

/-- A 32-bit value: an `i32`, a `u32`, a FixedPoint or the bits of an `f32` (R12). -/
abbrev Word := BitVec 32

/-- R13 `wrap32`: the unique 32-bit value congruent to `z` modulo 2^32. -/
def wrap32 (z : Int) : Word := BitVec.ofInt 32 z

/-- R13 `asr`: `floor (a / 2^n)`. Lean's `/` on integers rounds to the floor for a positive divisor. -/
def asr (a : Int) (n : Nat) : Int := a / 2 ^ n

/-- R13 `truncdiv`: the quotient rounded toward zero. -/
def truncdiv (a b : Int) : Int := Int.tdiv a b

end Sys2Proof
end

