-- ==== Sys2Proof/Syntax.lean ====
section
/-! DEFINITION. The operations of the opcode map (`spec/30_encoding.md` R92), the agents (R96) and the
request (R90). -/

namespace Sys2Proof

/-- The two cores (R2, R297). -/
inductive CoreId where
  | c0
  | c1
  deriving DecidableEq, Repr, Inhabited

/-- `1 - c`. -/
def CoreId.other (c : CoreId) : CoreId :=
  match c with
  | .c0 => .c1
  | .c1 => .c0

/-- Two copies of a thing, one per core: the spec's `REG[c]` (R13). -/
structure Pair (α : Type) where
  at0 : α
  at1 : α
  deriving DecidableEq, Repr, Inhabited

/-- `REG[c]`. -/
def Pair.get {α : Type} (p : Pair α) (c : CoreId) : α :=
  match c with
  | .c0 => p.at0
  | .c1 => p.at1

/-- `REG[c] <- v`. -/
def Pair.set {α : Type} (p : Pair α) (c : CoreId) (v : α) : Pair α :=
  match c with
  | .c0 => { p with at0 := v }
  | .c1 => { p with at1 := v }

/-- The agents of R96. -/
inductive Agent where
  | timer (c : CoreId)
  | acq
  | ct
  | hb (c : CoreId)
  | sleepTimer (c : CoreId)
  | host
  deriving DecidableEq, Repr, Inhabited

/-- R96: `CT`, `HB[0]` and `HB[1]` are sequencers inside the block; the other agents have a channel of
their own from outside. -/
def Agent.external (a : Agent) : Bool :=
  match a with
  | .timer _ => true
  | .acq => true
  | .ct => false
  | .hb _ => false
  | .sleepTimer _ => true
  | .host => true

/-- What travels on a request channel besides the agent's identity (R90): the command word and the two
operand ports. -/
structure Request where
  cmd : BitVec 16
  opa : Word
  opb : Word
  deriving DecidableEq, Repr, Inhabited

/-- The 36 operations of R92, one constructor per row of the opcode table, each with the operand ports
the row lists. -/
inductive Instr where
  | fxFromInt (opa : Word)
  | fxFromFloat (opa : Word)
  | fxToFloat (opa : Word)
  | fxToInt (opa : Word)
  | fxMul (opa opb : Word)
  | fxDiv (opa opb : Word)
  | fxAbs (opa : Word)
  | sinDds (opa : Word)
  | sinFft (opa : Word)
  | cosFft (opa : Word)
  | hannRd (opa : Word)
  | ddsTick (c : CoreId)
  | ddsSample (c : CoreId)
  | dacPush (c : CoreId)
  | envStep (c : CoreId)
  | acqPush (opa : Word)
  | capWait
  | capRearm
  | winLoad
  | fftBitrev
  | fftPass (opa : Word)
  | fftRun
  | mag (opa opb : Word)
  | peakScan
  | pubFreq
  | pubCntLd
  | pubCntSt
  | semWait (c : CoreId)
  | semSignal (c : CoreId)
  | hbCount (c : CoreId)
  | hbRdFreq (c : CoreId)
  | hbRdFft (c : CoreId)
  | hbEmit (c : CoreId)
  | hbClear (c : CoreId)
  | hbSleep (c : CoreId)
  | sleepExpire (c : CoreId)
  deriving DecidableEq, Repr

/-- The "issuer" column of R92. -/
def Instr.issuer (i : Instr) : Agent :=
  match i with
  | .fxFromInt _ => .host
  | .fxFromFloat _ => .host
  | .fxToFloat _ => .host
  | .fxToInt _ => .host
  | .fxMul _ _ => .host
  | .fxDiv _ _ => .host
  | .fxAbs _ => .host
  | .sinDds _ => .host
  | .sinFft _ => .host
  | .cosFft _ => .host
  | .hannRd _ => .host
  | .ddsTick c => .timer c
  | .ddsSample c => .timer c
  | .dacPush c => .timer c
  | .envStep c => .timer c
  | .acqPush _ => .acq
  | .capWait => .ct
  | .capRearm => .ct
  | .winLoad => .ct
  | .fftBitrev => .ct
  | .fftPass _ => .ct
  | .fftRun => .ct
  | .mag _ _ => .host
  | .peakScan => .ct
  | .pubFreq => .ct
  | .pubCntLd => .ct
  | .pubCntSt => .ct
  | .semWait c => .hb c
  | .semSignal c => .hb c
  | .hbCount c => .hb c
  | .hbRdFreq c => .hb c
  | .hbRdFft c => .hb c
  | .hbEmit c => .hb c
  | .hbClear c => .hb c
  | .hbSleep c => .hb c
  | .sleepExpire c => .sleepTimer c

end Sys2Proof
end

