-- ==== Sys2Proof/Config.lean ====
section
/-! DEFINITION. The configuration record `CFG` (`spec/00_scope.md` R7), the events that reach the block
from outside, and the free values the spec leaves open. -/

namespace Sys2Proof

/-- `CFG` (R7). `LOG2N` and `BEEP_DURATION` are not independent fields (R7, R8). -/
structure Cfg where
  n : Nat
  fsAcq : Nat
  tickRate : Nat
  handshakeIntervalUs : Nat
  attackTime : Word
  sustainTime : Word
  decayTime : Word
  beepRepeatInterval : Word
  maxAmplitude : Word
  outputScale : Word
  dcOffset : Word
  dacDataBits : Nat
  dacTag : Pair (BitVec 16)
  phaseIncInit : Pair Word
  sampleBits : Nat
  peakMinBin : Nat
  beta : Word
  deriving DecidableEq, Repr, Inhabited

/-- `LOG2N` (R7, R321). -/
def Cfg.log2n (g : Cfg) : Nat := g.n.log2

/-- R8: `BEEP_DURATION`, the sum without wrap. -/
def Cfg.beepDuration (g : Cfg) : Nat :=
  g.attackTime.toNat + g.sustainTime.toNat + g.decayTime.toNat

/-- The defaults of R7. -/
def Cfg.default : Cfg where
  n := 1024
  fsAcq := 10000
  tickRate := 40000
  handshakeIntervalUs := 1000000
  attackTime := 3000
  sustainTime := 10000
  decayTime := 3000
  beepRepeatInterval := 40000
  maxAmplitude := 32768
  outputScale := 67076096
  dcOffset := 2048
  dacDataBits := 12
  dacTag := ⟨0xB000, 0x3000⟩
  phaseIncInit := ⟨42949672, 85899345⟩
  sampleBits := 8
  peakMinBin := 5
  beta := 13107

/-- The tasks inside the block (R273). -/
inductive Task where
  | hb (c : CoreId)
  | ct
  deriving DecidableEq, Repr, Inhabited

/-- What can happen next (R273, R320).
`request`: a request on an agent's channel, with the level of `con_ready` at that moment.
`task`: the scheduler gives a task its turn, with the level of `con_ready` at that moment.
`rstHigh`: `rst` goes to 1. `rstLow`: `rst` goes to 0 with the record presented on `cfg`.
A `request` on the channel of `CT` or `HB[c]` never occurs in the running block (R96); it stands for
the evaluation of one operation on a given state that R96 allows (log 3). -/
inductive Event where
  | request (a : Agent) (r : Request) (conReady : Bool)
  | task (t : Task) (conReady : Bool)
  | rstHigh
  | rstLow (cfg : Cfg)
  deriving DecidableEq, Repr, Inhabited

/-- R96: the events that can occur in the running block. -/
def Event.occurs (e : Event) : Bool :=
  match e with
  | .request a _ _ => a.external
  | .task _ _ => true
  | .rstHigh => true
  | .rstLow _ => true

/-- U2, U3 (`spec/93_implementation_defined.md`): which event comes next is not determined. The n-th event
taken from outside the inbox; nothing constrains it (log 2). DESIGN CHOICE, safe. -/
opaque Config.arrival : Nat → Event

/-- U1: the result of `FX_FROM_FLOAT` of a NaN, an infinity or a value out of range is any value; the n-th
such value; nothing constrains it (log 7). DESIGN CHOICE, safe. -/
opaque Config.freeWord : Nat → Word

/-- R26: `CFG` is unspecified while `rst` = 1, before the sampling; nothing constrains it (log 10).
DESIGN CHOICE, safe. -/
opaque Config.unsampledCfg : Cfg

end Sys2Proof
end

