-- ==== Sys2Proof/WellFormed.lean ====
section
/-! DEFINITION. Which operand values of an operation are legal (`spec/30_encoding.md` R100,
`spec/45_fft.md` R214). Only `FFT_PASS` restricts an operand; every other operation takes every value. -/

namespace Sys2Proof

/-- `n` is a power of two (R214, R326). -/
def isPow2 (n : Nat) : Bool := n == 2 ^ n.log2

/-- R214: a legal `L` is a power of two with `1 <= L <= N/2`. -/
def legalPassLength (n l : Nat) : Bool := isPow2 l && decide (l ≤ n / 2)

/-- The operands of `i` are legal for a block configured with `n` points. -/
def Instr.wellFormed (n : Nat) (i : Instr) : Bool :=
  match i with
  | .fxFromInt _ => true
  | .fxFromFloat _ => true
  | .fxToFloat _ => true
  | .fxToInt _ => true
  | .fxMul _ _ => true
  | .fxDiv _ _ => true
  | .fxAbs _ => true
  | .sinDds _ => true
  | .sinFft _ => true
  | .cosFft _ => true
  | .hannRd _ => true
  | .ddsTick _ => true
  | .ddsSample _ => true
  | .dacPush _ => true
  | .envStep _ => true
  | .acqPush _ => true
  | .capWait => true
  | .capRearm => true
  | .winLoad => true
  | .fftBitrev => true
  | .fftPass l => legalPassLength n l.toNat
  | .fftRun => true
  | .mag _ _ => true
  | .peakScan => true
  | .pubFreq => true
  | .pubCntLd => true
  | .pubCntSt => true
  | .semWait _ => true
  | .semSignal _ => true
  | .hbCount _ => true
  | .hbRdFreq _ => true
  | .hbRdFft _ => true
  | .hbEmit _ => true
  | .hbClear _ => true
  | .hbSleep _ => true
  | .sleepExpire _ => true

end Sys2Proof
end

