-- ==== Sys2Proof/Decode.lean ====
section
/-! DEFINITION. The decoder of the command word, total on every request and rejecting by name
(`spec/30_encoding.md` R91, R93, R100), and after it the encoder. -/

namespace Sys2Proof

/-- Why a command word selects no row (R100). -/
inductive BadCommand where
  | reservedUnit
  | unlistedOp
  | reservedBits
  | coreBit
  deriving DecidableEq, Repr

/-- R91: `UNIT`. -/
def cmdUnit (cmd : BitVec 16) : Nat := cmd.toNat / 4096

/-- R91: `OP`. -/
def cmdOp (cmd : BitVec 16) : Nat := cmd.toNat / 256 % 16

/-- R91: `ZERO`, `cmd[7:1]`. -/
def cmdZero (cmd : BitVec 16) : Nat := cmd.toNat / 2 % 128

/-- R91: `CORE`. -/
def cmdCore (cmd : BitVec 16) : CoreId := if cmd.toNat % 2 = 0 then .c0 else .c1

/-- R93: `c = 0` is required for a unit that is not per-core. -/
def noCore (c : CoreId) (i : Instr) : Except BadCommand Instr :=
  match c with
  | .c0 => .ok i
  | .c1 => .error .coreBit

/-- The rows of R92 by unit and operation number. -/
def decodeRow (unit op : Nat) (c : CoreId) (a b : Word) : Except BadCommand Instr :=
  match unit, op with
  | 1, 0 => noCore c (.fxFromInt a)
  | 1, 1 => noCore c (.fxFromFloat a)
  | 1, 2 => noCore c (.fxToFloat a)
  | 1, 3 => noCore c (.fxToInt a)
  | 1, 4 => noCore c (.fxMul a b)
  | 1, 5 => noCore c (.fxDiv a b)
  | 1, 6 => noCore c (.fxAbs a)
  | 2, 0 => noCore c (.sinDds a)
  | 2, 1 => noCore c (.sinFft a)
  | 2, 2 => noCore c (.cosFft a)
  | 3, 0 => noCore c (.hannRd a)
  | 4, 0 => .ok (.ddsTick c)
  | 4, 1 => .ok (.ddsSample c)
  | 4, 2 => .ok (.dacPush c)
  | 5, 0 => .ok (.envStep c)
  | 6, 0 => noCore c (.acqPush a)
  | 6, 1 => noCore c .capWait
  | 6, 2 => noCore c .capRearm
  | 6, 3 => noCore c .winLoad
  | 7, 0 => noCore c .fftBitrev
  | 7, 1 => noCore c (.fftPass a)
  | 7, 2 => noCore c .fftRun
  | 8, 0 => noCore c (.mag a b)
  | 8, 1 => noCore c .peakScan
  | 8, 2 => noCore c .pubFreq
  | 8, 3 => noCore c .pubCntLd
  | 8, 4 => noCore c .pubCntSt
  | 9, 0 => .ok (.semWait c)
  | 9, 1 => .ok (.semSignal c)
  | 9, 2 => .ok (.hbCount c)
  | 9, 3 => .ok (.hbRdFreq c)
  | 9, 4 => .ok (.hbRdFft c)
  | 9, 5 => .ok (.hbEmit c)
  | 9, 6 => .ok (.hbClear c)
  | 9, 7 => .ok (.hbSleep c)
  | 9, 8 => .ok (.sleepExpire c)
  | u, _ => .error (if u = 0 ∨ 10 ≤ u then .reservedUnit else .unlistedOp)

/-- R93: the operation a request names, or why it names none. -/
def decode (r : Request) : Except BadCommand Instr :=
  if cmdZero r.cmd = 0 then
    decodeRow (cmdUnit r.cmd) (cmdOp r.cmd) (cmdCore r.cmd) r.opa r.opb
  else .error .reservedBits

/-- A request written as one number: the command word is bits 15:0, `opa` bits 47:16, `opb` bits 79:48
(log 1). DESIGN CHOICE: the spec gives a request no serial form. -/
def Request.ofNat (w : Nat) : Request where
  cmd := BitVec.ofNat 16 w
  opa := BitVec.ofNat 32 (w / 2 ^ 16)
  opb := BitVec.ofNat 32 (w / 2 ^ 48)

/-- The instruction the decoder reads from the `nbits` low bits of `w`, every later bit zero. -/
def decodeTableWord (nbits w : Nat) : Option Instr :=
  match decode (Request.ofNat (w % 2 ^ nbits)) with
  | .ok i => some i
  | .error _ => none

/-- The command word of an operation for core 0 with `CORE` added (R92: "add 1 for c = 1"). -/
def perCoreCmd (base : BitVec 16) (c : CoreId) : BitVec 16 :=
  match c with
  | .c0 => base
  | .c1 => base + 1

/-- The `cmd` column of R92. -/
def encodeCmd (i : Instr) : BitVec 16 :=
  match i with
  | .fxFromInt _ => 0x1000
  | .fxFromFloat _ => 0x1100
  | .fxToFloat _ => 0x1200
  | .fxToInt _ => 0x1300
  | .fxMul _ _ => 0x1400
  | .fxDiv _ _ => 0x1500
  | .fxAbs _ => 0x1600
  | .sinDds _ => 0x2000
  | .sinFft _ => 0x2100
  | .cosFft _ => 0x2200
  | .hannRd _ => 0x3000
  | .ddsTick c => perCoreCmd 0x4000 c
  | .ddsSample c => perCoreCmd 0x4100 c
  | .dacPush c => perCoreCmd 0x4200 c
  | .envStep c => perCoreCmd 0x5000 c
  | .acqPush _ => 0x6000
  | .capWait => 0x6100
  | .capRearm => 0x6200
  | .winLoad => 0x6300
  | .fftBitrev => 0x7000
  | .fftPass _ => 0x7100
  | .fftRun => 0x7200
  | .mag _ _ => 0x8000
  | .peakScan => 0x8100
  | .pubFreq => 0x8200
  | .pubCntLd => 0x8300
  | .pubCntSt => 0x8400
  | .semWait c => perCoreCmd 0x9000 c
  | .semSignal c => perCoreCmd 0x9100 c
  | .hbCount c => perCoreCmd 0x9200 c
  | .hbRdFreq c => perCoreCmd 0x9300 c
  | .hbRdFft c => perCoreCmd 0x9400 c
  | .hbEmit c => perCoreCmd 0x9500 c
  | .hbClear c => perCoreCmd 0x9600 c
  | .hbSleep c => perCoreCmd 0x9700 c
  | .sleepExpire c => perCoreCmd 0x9800 c

/-- R94: what an operation presents on `opa` and `opb`; a port it does not list carries 0. -/
def encodeOperands (i : Instr) : Word × Word :=
  match i with
  | .fxFromInt a => (a, 0)
  | .fxFromFloat a => (a, 0)
  | .fxToFloat a => (a, 0)
  | .fxToInt a => (a, 0)
  | .fxMul a b => (a, b)
  | .fxDiv a b => (a, b)
  | .fxAbs a => (a, 0)
  | .sinDds a => (a, 0)
  | .sinFft a => (a, 0)
  | .cosFft a => (a, 0)
  | .hannRd a => (a, 0)
  | .ddsTick _ => (0, 0)
  | .ddsSample _ => (0, 0)
  | .dacPush _ => (0, 0)
  | .envStep _ => (0, 0)
  | .acqPush a => (a, 0)
  | .capWait => (0, 0)
  | .capRearm => (0, 0)
  | .winLoad => (0, 0)
  | .fftBitrev => (0, 0)
  | .fftPass a => (a, 0)
  | .fftRun => (0, 0)
  | .mag a b => (a, b)
  | .peakScan => (0, 0)
  | .pubFreq => (0, 0)
  | .pubCntLd => (0, 0)
  | .pubCntSt => (0, 0)
  | .semWait _ => (0, 0)
  | .semSignal _ => (0, 0)
  | .hbCount _ => (0, 0)
  | .hbRdFreq _ => (0, 0)
  | .hbRdFft _ => (0, 0)
  | .hbEmit _ => (0, 0)
  | .hbClear _ => (0, 0)
  | .hbSleep _ => (0, 0)
  | .sleepExpire _ => (0, 0)

/-- The request that names the operation `i`. -/
def encode (i : Instr) : Request where
  cmd := encodeCmd i
  opa := (encodeOperands i).1
  opb := (encodeOperands i).2

end Sys2Proof
end

