-- ==== Sys2Proof/Machine/State.lean ====
section
/-! DEFINITION. The state of the block as plain data (`spec/10_state.md`), grouped by owner
(`spec/20_memory.md` R66), the reasons a step can stop, and the state after reset (R55). -/

namespace Sys2Proof.Machine

/-- R23 `RUN_STATE`. -/
inductive RunState where
  | init
  | running
  | halted
  deriving DecidableEq, Repr, Inhabited

/-- R27 `ENV_STATE[c]`. -/
inductive EnvState where
  | active
  | silent
  deriving DecidableEq, Repr, Inhabited

/-- R44 `SLEEP_STATE[c]`. -/
inductive SleepState where
  | idle
  | counting
  | expired
  deriving DecidableEq, Repr, Inhabited

/-- R47 `CORE_OWNER[c]`. -/
inductive Owner where
  | none
  | hb
  | ct
  deriving DecidableEq, Repr, Inhabited

/-- R34, R35: one of the two physical sample buffers. -/
inductive BufSel where
  | buf0
  | buf1
  deriving DecidableEq, Repr, Inhabited

/-- R281: the statuses a request is answered with. Code 7 is never produced. -/
inductive Status where
  | ok
  | div0
  | cfgerr
  | periph
  | illcmd
  | notReady
  | notRunning
  deriving DecidableEq, Repr, Inhabited

/-- R52: `res` and `st`. -/
structure Reply where
  res : Word
  st : Status
  deriving DecidableEq, Repr, Inhabited

/-- R52: what the block emits for one event: a DAC word, or a console line. -/
inductive Output where
  | dac (word : BitVec 16)
  | con (core : CoreId) (ppc freq fft : Word)
  deriving DecidableEq, Repr, Inhabited

/-- A writable storage space (R50, R60): the elements written so far, as (index, element) pairs. In the
canonical form (`Memory.wf`) indices rise strictly. An element that is not listed holds nothing
(R73, U8, log 5); elements are whole, never bytes (R60, R61, log 6). -/
abbrev Store := List (Nat × Word)

/-- The four writable storage spaces of R50. The three tables are ROM (`Machine/Tables.lean`). -/
structure Memory where
  buf0 : Store
  buf1 : Store
  re : Store
  im : Store
  deriving DecidableEq, Repr, Inhabited

/-- The names of the writable storage spaces (R50). -/
inductive Space where
  | buf (b : BufSel)
  | re
  | im
  deriving DecidableEq, Repr, Inhabited

/-- Per-core synthesis state, owned by `TIMER[c]` (R27 to R32). `DAC_OUT` is `CFG.DAC_DATA_BITS` bits
wide, at most 16 (log 14). -/
structure Synth where
  envState : EnvState
  envElapsed : Word
  envAmp : Word
  phaseAcc : Word
  phaseInc : Word
  dacOut : BitVec 16
  deriving DecidableEq, Repr, Inhabited

/-- Capture registers (R35 to R37). `WR_PTR` is `LOG2N + 1` bits wide, at most 17 (log 14). -/
structure Capture where
  fillSel : BufSel
  consSel : BufSel
  wrPtr : BitVec 17
  armed : Bool
  epochDone : Bool
  deriving DecidableEq, Repr, Inhabited

/-- Registers owned by the consumer task `CT` (R39, R43, R45). `MAX_IDX` is `LOG2N` bits wide, at most 16
(log 14). -/
structure Consumer where
  maxMag : Word
  maxIdx : BitVec 16
  cntTmp : Word
  ctPc : BitVec 3
  deriving DecidableEq, Repr, Inhabited

/-- Shared telemetry (R40). -/
structure Telemetry where
  maxFrequency : Word
  fftCount : Word
  pingPong : Word
  deriving DecidableEq, Repr, Inhabited

/-- Per-core heartbeat registers (R42, R44, R46). -/
structure Heart where
  hbPc : BitVec 3
  sleepState : SleepState
  rptCnt : Word
  rptFreq : Word
  rptFft : Word
  deriving DecidableEq, Repr, Inhabited

/-- The whole machine. The fields up to `coreOwner` are the spec's; `agent`, `conReady`, `reply`, `emitted`,
`inbox`, `arrivals` and `draws` are the model's own (log 2, 3, 7, 9). -/
structure State where
  runState : RunState
  status : BitVec 4
  lastCause : BitVec 3
  cfg : Cfg
  attackInc : Word
  decayInc : Word
  synth : Pair Synth
  cap : Capture
  mem : Memory
  cons : Consumer
  tele : Telemetry
  go : Pair Bool
  heart : Pair Heart
  coreOwner : Pair Owner
  agent : Agent
  conReady : Bool
  reply : Option Reply
  emitted : List Output
  inbox : List Event
  arrivals : Nat
  draws : Nat
  deriving DecidableEq, Repr, Inhabited

/-- Why an evaluation stops. Neither is an error of the block, which has no fatal error once `RUNNING`
(R292). -/
inductive Fault where
  /-- An operation needed an element of `BUF`, `RE` or `IM` that nothing has written (R73, U8: a model
  faults such an evaluation). Raised by `WIN_LOAD`, `FFT_BITREV`, `FFT_PASS`, `FFT_RUN` and `PEAK_SCAN`.
  Safe: no value is invented (log 5). -/
  | readUnwritten
  /-- `ACQ_PUSH` with `ARMED` = 1 and `WR_PTR` at `N` or above: the element does not exist (R36, R62,
  R191). Safe; no run of the block reaches it (log 12). -/
  | indexOutOfRange
  deriving DecidableEq, Repr, Inhabited

/-- Why an instruction is refused. -/
inductive Refusal where
  /-- An arm of `exec` without a meaning. Raised by no arm. Safe. -/
  | notModelled (mnemonic : String)
  deriving DecidableEq, Repr, Inhabited

/-- The outcome of a step of this machine. -/
abbrev Out := Host.Outcome State Fault Refusal

/-- No element of any writable space has been written (R55: "unspecified"). -/
def Memory.empty : Memory := ⟨[], [], [], []⟩

/-- The registers at the values of R55 with `RUN_STATE` = INIT: what they hold while `rst` = 1 (R320), `CFG`
being unspecified then (R26). `PHASE_INC` takes `CFG.PHASE_INC_INIT` (R31). `ATTACK_INC`, `DECAY_INC`,
`DAC_OUT`, `CNT_TMP` and the `RPT` latches have no value in the spec here: zero is DESIGN CHOICE, unsafe
(log 4). -/
def State.held (g : Cfg) : State where
  runState := .init
  status := 0
  lastCause := 0
  cfg := g
  attackInc := 0
  decayInc := 0
  synth := ⟨⟨.active, 0, 0, 0, g.phaseIncInit.at0, 0⟩, ⟨.active, 0, 0, 0, g.phaseIncInit.at1, 0⟩⟩
  cap := ⟨.buf0, .buf1, 0, false, false⟩
  mem := Memory.empty
  cons := ⟨0, 0, 0, 0⟩
  tele := ⟨0, 0, 0⟩
  go := ⟨true, false⟩
  heart := ⟨⟨0, .idle, 0, 0, 0⟩, ⟨0, .idle, 0, 0, 0⟩⟩
  coreOwner := ⟨.none, .none⟩
  agent := .host
  conReady := false
  reply := none
  emitted := []
  inbox := []
  arrivals := 0
  draws := 0

/-- The machine right after reset is released with the default `CFG` (R55, R322 to R327): `RUN_STATE` is
RUNNING, acquisition is armed and both increments are 10 (R9). -/
def State.reset : State :=
  { State.held Cfg.default with
    runState := .running
    attackInc := 10
    decayInc := 10
    cap := ⟨.buf0, .buf1, 0, true, false⟩ }

end Sys2Proof.Machine
end

