-- ==== Sys2Proof/Machine/Operands.lean ====
section
/-! DEFINITION. How operands are read (`spec/30_encoding.md` R94), and the binary32 format
(`spec/40_fixed_point.md` R120). -/

namespace Sys2Proof.Machine

/-- R131: an index operand uses the low bits its table needs; a table of `n` entries (`n` a power of two)
has `log2 n` index bits. -/
def tableIndex (n : Nat) (opa : Word) : Nat := opa.toNat % 2 ^ n.log2

/-- R191: a sample operand is `opa[SAMPLE_BITS-1:0]`. -/
def sampleOperand (bits : Nat) (opa : Word) : Word := BitVec.ofNat 32 (opa.toNat % 2 ^ bits)

/-- R165: the low `bits` bits of `v`, the rest dropped. -/
def lowBits16 (bits : Nat) (v : Word) : BitVec 16 := BitVec.ofNat 16 (v.toNat % 2 ^ bits)

/-- R120: the sign bit of a binary32. -/
def f32Sign (x : Word) : Bool := x.getLsbD 31

/-- R120: the exponent field of a binary32, biased by 127. -/
def f32Exponent (x : Word) : Nat := x.toNat / 2 ^ 23 % 256

/-- R120: the fraction field of a binary32. -/
def f32Fraction (x : Word) : Nat := x.toNat % 2 ^ 23

/-- R112: `floor (|x| * 2^15)` for a binary32 `x` that is no NaN and no infinity. The value of `x` is its
significand times `2 ^ (e - 150)`, with `e` = 1 for a subnormal. -/
def f32ScaledMagnitude (x : Word) : Nat :=
  let e := f32Exponent x
  let sig := if e = 0 then f32Fraction x else f32Fraction x + 2 ^ 23
  let e := if e = 0 then 1 else e
  if 135 ≤ e then sig * 2 ^ (e - 135) else sig / 2 ^ (135 - e)

/-- R112: `trunc (x * 2^15)` where it lies in the range of an `i32`; none for a NaN, an infinity or a value
out of range. -/
def f32ToFixed (x : Word) : Option Int :=
  if f32Exponent x = 255 then none
  else
    let t : Int := if f32Sign x then -(f32ScaledMagnitude x : Int) else f32ScaledMagnitude x
    if -2 ^ 31 ≤ t ∧ t ≤ 2 ^ 31 - 1 then some t else none

/-- Round half to even: `m / 2^k` to an integer, where `sticky` says that the exact value is a little above
`m` (R113, R235). -/
def roundEven (m k : Nat) (sticky : Bool) : Nat :=
  let q := m / 2 ^ k
  let r := m % 2 ^ k
  if 2 ^ k < 2 * r ∨ (2 * r = 2 ^ k ∧ (sticky ∨ q % 2 = 1)) then q + 1 else q

/-- R113, R235 `f32_rne`: the bits of the binary32 nearest to `num / den`, ties to the even significand.
`num / den` is 0 or at least `2 ^ (-40)`, and below `2 ^ 128` (log 19). The quotient is taken with 64
fraction bits and a sticky remainder, and rounded once to 24 significant bits; a carry out of the
significand moves into the exponent. -/
def f32Rne (num den : Nat) : Word :=
  let m := num * 2 ^ 64 / den
  if m = 0 then 0
  else
    let e := m.log2
    BitVec.ofNat 32 ((e + 62) * 2 ^ 23 + roundEven m (e - 23) (num * 2 ^ 64 % den ≠ 0))

end Sys2Proof.Machine
end

