-- ==== Sys2Proof/Machine/Tables.lean ====
section
/-! DEFINITION. The tables of units 2 and 3 (`spec/41_luts.md`). For `N` up to 1024 their contents are the
literal lists of `spec/42_lut_data.md`, which govern (decision D11), sub-sampled as R134 and R135 say; for
`N` above 1024 no list is given and the defining formula is computed (log 11). -/

namespace Sys2Proof.Machine

/-- R150, `SINEN` for `N` = 1024, entries 0 to 127. -/
def sine1024Part0 : List Int := [
  0, 201, 402, 603, 804, 1005, 1206, 1407, 1607, 1808, 2009, 2210, 2410, 2611, 2811, 3011,
  3211, 3411, 3611, 3811, 4011, 4210, 4409, 4609, 4808, 5006, 5205, 5403, 5602, 5800, 5997, 6195,
  6392, 6589, 6786, 6983, 7179, 7375, 7571, 7766, 7961, 8156, 8351, 8545, 8739, 8933, 9126, 9319,
  9512, 9704, 9896, 10087, 10278, 10469, 10659, 10849, 11039, 11228, 11416, 11605, 11793, 11980, 12167, 12353,
  12539, 12725, 12910, 13094, 13278, 13462, 13645, 13828, 14010, 14191, 14372, 14552, 14732, 14912, 15090, 15269,
  15446, 15623, 15800, 15976, 16151, 16325, 16499, 16673, 16846, 17018, 17189, 17360, 17530, 17700, 17869, 18037,
  18204, 18371, 18537, 18703, 18868, 19032, 19195, 19358, 19519, 19681, 19841, 20001, 20159, 20318, 20475, 20631,
  20787, 20942, 21097, 21250, 21403, 21555, 21706, 21856, 22005, 22154, 22301, 22448, 22594, 22740, 22884, 23027]

/-- R150, `SINEN` for `N` = 1024, entries 128 to 255. -/
def sine1024Part1 : List Int := [
  23170, 23312, 23453, 23593, 23732, 23870, 24007, 24144, 24279, 24414, 24547, 24680, 24812, 24943, 25073, 25201,
  25330, 25457, 25583, 25708, 25832, 25955, 26077, 26199, 26319, 26438, 26557, 26674, 26790, 26905, 27020, 27133,
  27245, 27356, 27466, 27576, 27684, 27791, 27897, 28002, 28106, 28208, 28310, 28411, 28511, 28609, 28707, 28803,
  28898, 28993, 29086, 29178, 29269, 29359, 29447, 29535, 29621, 29707, 29791, 29874, 29956, 30037, 30117, 30196,
  30273, 30350, 30425, 30499, 30572, 30644, 30714, 30784, 30852, 30919, 30985, 31050, 31114, 31176, 31237, 31298,
  31357, 31414, 31471, 31526, 31581, 31634, 31685, 31736, 31785, 31834, 31881, 31927, 31971, 32015, 32057, 32098,
  32138, 32176, 32214, 32250, 32285, 32319, 32351, 32383, 32413, 32442, 32469, 32496, 32521, 32545, 32568, 32589,
  32610, 32629, 32647, 32663, 32679, 32693, 32706, 32718, 32728, 32737, 32745, 32752, 32758, 32762, 32765, 32767]

/-- R150, `SINEN` for `N` = 1024, entries 256 to 383. -/
def sine1024Part2 : List Int := [
  32768, 32767, 32765, 32762, 32758, 32752, 32745, 32737, 32728, 32718, 32706, 32693, 32679, 32663, 32647, 32629,
  32610, 32589, 32568, 32545, 32521, 32496, 32469, 32442, 32413, 32383, 32351, 32319, 32285, 32250, 32214, 32176,
  32138, 32098, 32057, 32015, 31971, 31927, 31881, 31834, 31785, 31736, 31685, 31634, 31581, 31526, 31471, 31414,
  31357, 31298, 31237, 31176, 31114, 31050, 30985, 30919, 30852, 30784, 30714, 30644, 30572, 30499, 30425, 30350,
  30273, 30196, 30117, 30037, 29956, 29874, 29791, 29707, 29621, 29535, 29447, 29359, 29269, 29178, 29086, 28993,
  28898, 28803, 28707, 28609, 28511, 28411, 28310, 28208, 28106, 28002, 27897, 27791, 27684, 27576, 27466, 27356,
  27245, 27133, 27020, 26905, 26790, 26674, 26557, 26438, 26319, 26199, 26077, 25955, 25832, 25708, 25583, 25457,
  25330, 25201, 25073, 24943, 24812, 24680, 24547, 24414, 24279, 24144, 24007, 23870, 23732, 23593, 23453, 23312]

/-- R150, `SINEN` for `N` = 1024, entries 384 to 511. -/
def sine1024Part3 : List Int := [
  23170, 23027, 22884, 22740, 22594, 22448, 22301, 22154, 22005, 21856, 21706, 21555, 21403, 21250, 21097, 20942,
  20787, 20631, 20475, 20318, 20159, 20001, 19841, 19681, 19519, 19358, 19195, 19032, 18868, 18703, 18537, 18371,
  18204, 18037, 17869, 17700, 17530, 17360, 17189, 17018, 16846, 16673, 16499, 16325, 16151, 15976, 15800, 15623,
  15446, 15269, 15090, 14912, 14732, 14552, 14372, 14191, 14010, 13828, 13645, 13462, 13278, 13094, 12910, 12725,
  12539, 12353, 12167, 11980, 11793, 11605, 11416, 11228, 11039, 10849, 10659, 10469, 10278, 10087, 9896, 9704,
  9512, 9319, 9126, 8933, 8739, 8545, 8351, 8156, 7961, 7766, 7571, 7375, 7179, 6983, 6786, 6589,
  6392, 6195, 5997, 5800, 5602, 5403, 5205, 5006, 4808, 4609, 4409, 4210, 4011, 3811, 3611, 3411,
  3211, 3011, 2811, 2611, 2410, 2210, 2009, 1808, 1607, 1407, 1206, 1005, 804, 603, 402, 201]

/-- R150, `SINEN` for `N` = 1024, entries 512 to 639. -/
def sine1024Part4 : List Int := [
  0, -201, -402, -603, -804, -1005, -1206, -1407, -1607, -1808, -2009, -2210, -2410, -2611, -2811, -3011,
  -3211, -3411, -3611, -3811, -4011, -4210, -4409, -4609, -4808, -5006, -5205, -5403, -5602, -5800, -5997, -6195,
  -6392, -6589, -6786, -6983, -7179, -7375, -7571, -7766, -7961, -8156, -8351, -8545, -8739, -8933, -9126, -9319,
  -9512, -9704, -9896, -10087, -10278, -10469, -10659, -10849, -11039, -11228, -11416, -11605, -11793, -11980, -12167, -12353,
  -12539, -12725, -12910, -13094, -13278, -13462, -13645, -13828, -14010, -14191, -14372, -14552, -14732, -14912, -15090, -15269,
  -15446, -15623, -15800, -15976, -16151, -16325, -16499, -16673, -16846, -17018, -17189, -17360, -17530, -17700, -17869, -18037,
  -18204, -18371, -18537, -18703, -18868, -19032, -19195, -19358, -19519, -19681, -19841, -20001, -20159, -20318, -20475, -20631,
  -20787, -20942, -21097, -21250, -21403, -21555, -21706, -21856, -22005, -22154, -22301, -22448, -22594, -22740, -22884, -23027]

/-- R150, `SINEN` for `N` = 1024, entries 640 to 767. -/
def sine1024Part5 : List Int := [
  -23170, -23312, -23453, -23593, -23732, -23870, -24007, -24144, -24279, -24414, -24547, -24680, -24812, -24943, -25073, -25201,
  -25330, -25457, -25583, -25708, -25832, -25955, -26077, -26199, -26319, -26438, -26557, -26674, -26790, -26905, -27020, -27133,
  -27245, -27356, -27466, -27576, -27684, -27791, -27897, -28002, -28106, -28208, -28310, -28411, -28511, -28609, -28707, -28803,
  -28898, -28993, -29086, -29178, -29269, -29359, -29447, -29535, -29621, -29707, -29791, -29874, -29956, -30037, -30117, -30196,
  -30273, -30350, -30425, -30499, -30572, -30644, -30714, -30784, -30852, -30919, -30985, -31050, -31114, -31176, -31237, -31298,
  -31357, -31414, -31471, -31526, -31581, -31634, -31685, -31736, -31785, -31834, -31881, -31927, -31971, -32015, -32057, -32098,
  -32138, -32176, -32214, -32250, -32285, -32319, -32351, -32383, -32413, -32442, -32469, -32496, -32521, -32545, -32568, -32589,
  -32610, -32629, -32647, -32663, -32679, -32693, -32706, -32718, -32728, -32737, -32745, -32752, -32758, -32762, -32765, -32767]

/-- R150, `SINEN` for `N` = 1024, entries 768 to 895. -/
def sine1024Part6 : List Int := [
  -32768, -32767, -32765, -32762, -32758, -32752, -32745, -32737, -32728, -32718, -32706, -32693, -32679, -32663, -32647, -32629,
  -32610, -32589, -32568, -32545, -32521, -32496, -32469, -32442, -32413, -32383, -32351, -32319, -32285, -32250, -32214, -32176,
  -32138, -32098, -32057, -32015, -31971, -31927, -31881, -31834, -31785, -31736, -31685, -31634, -31581, -31526, -31471, -31414,
  -31357, -31298, -31237, -31176, -31114, -31050, -30985, -30919, -30852, -30784, -30714, -30644, -30572, -30499, -30425, -30350,
  -30273, -30196, -30117, -30037, -29956, -29874, -29791, -29707, -29621, -29535, -29447, -29359, -29269, -29178, -29086, -28993,
  -28898, -28803, -28707, -28609, -28511, -28411, -28310, -28208, -28106, -28002, -27897, -27791, -27684, -27576, -27466, -27356,
  -27245, -27133, -27020, -26905, -26790, -26674, -26557, -26438, -26319, -26199, -26077, -25955, -25832, -25708, -25583, -25457,
  -25330, -25201, -25073, -24943, -24812, -24680, -24547, -24414, -24279, -24144, -24007, -23870, -23732, -23593, -23453, -23312]

/-- R150, `SINEN` for `N` = 1024, entries 896 to 1023. -/
def sine1024Part7 : List Int := [
  -23170, -23027, -22884, -22740, -22594, -22448, -22301, -22154, -22005, -21856, -21706, -21555, -21403, -21250, -21097, -20942,
  -20787, -20631, -20475, -20318, -20159, -20001, -19841, -19681, -19519, -19358, -19195, -19032, -18868, -18703, -18537, -18371,
  -18204, -18037, -17869, -17700, -17530, -17360, -17189, -17018, -16846, -16673, -16499, -16325, -16151, -15976, -15800, -15623,
  -15446, -15269, -15090, -14912, -14732, -14552, -14372, -14191, -14010, -13828, -13645, -13462, -13278, -13094, -12910, -12725,
  -12539, -12353, -12167, -11980, -11793, -11605, -11416, -11228, -11039, -10849, -10659, -10469, -10278, -10087, -9896, -9704,
  -9512, -9319, -9126, -8933, -8739, -8545, -8351, -8156, -7961, -7766, -7571, -7375, -7179, -6983, -6786, -6589,
  -6392, -6195, -5997, -5800, -5602, -5403, -5205, -5006, -4808, -4609, -4409, -4210, -4011, -3811, -3611, -3411,
  -3211, -3011, -2811, -2611, -2410, -2210, -2009, -1808, -1607, -1407, -1206, -1005, -804, -603, -402, -201]

/-- R151, `HANN` for `N` = 1024, entries 0 to 127. -/
def hann1024Part0 : List Int := [
  0, 0, 1, 2, 4, 7, 11, 15, 19, 24, 30, 37, 44, 52, 60, 69,
  78, 89, 99, 111, 123, 135, 149, 162, 177, 192, 208, 224, 241, 258, 276, 295,
  314, 334, 355, 376, 398, 420, 443, 466, 491, 515, 541, 566, 593, 620, 648, 676,
  705, 734, 765, 795, 826, 858, 891, 924, 957, 991, 1026, 1061, 1097, 1134, 1171, 1208,
  1247, 1285, 1325, 1365, 1405, 1446, 1488, 1530, 1573, 1616, 1660, 1704, 1749, 1794, 1840, 1887,
  1934, 1982, 2030, 2079, 2128, 2178, 2228, 2279, 2330, 2382, 2435, 2488, 2541, 2595, 2650, 2705,
  2761, 2817, 2873, 2931, 2988, 3046, 3105, 3164, 3224, 3284, 3345, 3406, 3467, 3529, 3592, 3655,
  3718, 3783, 3847, 3912, 3977, 4043, 4110, 4176, 4244, 4311, 4380, 4448, 4517, 4587, 4657, 4727]

/-- R151, `HANN` for `N` = 1024, entries 128 to 255. -/
def hann1024Part1 : List Int := [
  4798, 4870, 4941, 5013, 5086, 5159, 5233, 5306, 5381, 5455, 5530, 5606, 5682, 5758, 5835, 5912,
  5990, 6068, 6146, 6224, 6304, 6383, 6463, 6543, 6624, 6704, 6786, 6867, 6949, 7032, 7115, 7198,
  7281, 7365, 7449, 7533, 7618, 7703, 7789, 7874, 7960, 8047, 8134, 8221, 8308, 8395, 8483, 8572,
  8660, 8749, 8838, 8927, 9017, 9107, 9197, 9288, 9378, 9469, 9561, 9652, 9744, 9836, 9928, 10021,
  10114, 10207, 10300, 10393, 10487, 10581, 10675, 10769, 10864, 10959, 11054, 11149, 11244, 11340, 11435, 11531,
  11627, 11724, 11820, 11917, 12014, 12111, 12208, 12305, 12403, 12500, 12598, 12696, 12794, 12892, 12990, 13089,
  13187, 13286, 13385, 13483, 13582, 13682, 13781, 13880, 13979, 14079, 14179, 14278, 14378, 14478, 14578, 14678,
  14778, 14878, 14978, 15078, 15178, 15278, 15379, 15479, 15580, 15680, 15780, 15881, 15981, 16082, 16182, 16283]

/-- R151, `HANN` for `N` = 1024, entries 256 to 383. -/
def hann1024Part2 : List Int := [
  16384, 16484, 16585, 16685, 16786, 16886, 16987, 17087, 17187, 17288, 17388, 17489, 17589, 17689, 17789, 17889,
  17989, 18089, 18189, 18289, 18389, 18489, 18588, 18688, 18788, 18887, 18986, 19085, 19185, 19284, 19382, 19481,
  19580, 19678, 19777, 19875, 19973, 20071, 20169, 20267, 20364, 20462, 20559, 20656, 20753, 20850, 20947, 21043,
  21140, 21236, 21332, 21427, 21523, 21618, 21713, 21808, 21903, 21998, 22092, 22186, 22280, 22374, 22467, 22560,
  22653, 22746, 22839, 22931, 23023, 23115, 23206, 23298, 23389, 23479, 23570, 23660, 23750, 23840, 23929, 24018,
  24107, 24195, 24284, 24372, 24459, 24546, 24633, 24720, 24807, 24893, 24978, 25064, 25149, 25234, 25318, 25402,
  25486, 25569, 25652, 25735, 25818, 25900, 25981, 26063, 26143, 26224, 26304, 26384, 26463, 26543, 26621, 26699,
  26777, 26855, 26932, 27009, 27085, 27161, 27237, 27312, 27386, 27461, 27534, 27608, 27681, 27754, 27826, 27897]

/-- R151, `HANN` for `N` = 1024, entries 384 to 511. -/
def hann1024Part3 : List Int := [
  27969, 28040, 28110, 28180, 28250, 28319, 28387, 28456, 28523, 28591, 28657, 28724, 28790, 28855, 28920, 28984,
  29049, 29112, 29175, 29238, 29300, 29361, 29422, 29483, 29543, 29603, 29662, 29721, 29779, 29836, 29894, 29950,
  30006, 30062, 30117, 30172, 30226, 30279, 30332, 30385, 30437, 30488, 30539, 30589, 30639, 30688, 30737, 30785,
  30833, 30880, 30927, 30973, 31018, 31063, 31107, 31151, 31194, 31237, 31279, 31321, 31362, 31402, 31442, 31482,
  31520, 31559, 31596, 31633, 31670, 31706, 31741, 31776, 31810, 31843, 31876, 31909, 31941, 31972, 32002, 32033,
  32062, 32091, 32119, 32147, 32174, 32201, 32226, 32252, 32276, 32301, 32324, 32347, 32369, 32391, 32412, 32433,
  32453, 32472, 32491, 32509, 32526, 32543, 32559, 32575, 32590, 32605, 32618, 32632, 32644, 32656, 32668, 32678,
  32689, 32698, 32707, 32715, 32723, 32730, 32737, 32743, 32748, 32752, 32756, 32760, 32763, 32765, 32766, 32767]

/-- R151, `HANN` for `N` = 1024, entries 512 to 639. -/
def hann1024Part4 : List Int := [
  32768, 32767, 32766, 32765, 32763, 32760, 32756, 32752, 32748, 32743, 32737, 32730, 32723, 32715, 32707, 32698,
  32689, 32678, 32668, 32656, 32644, 32632, 32618, 32605, 32590, 32575, 32559, 32543, 32526, 32509, 32491, 32472,
  32453, 32433, 32412, 32391, 32369, 32347, 32324, 32301, 32276, 32252, 32226, 32201, 32174, 32147, 32119, 32091,
  32062, 32033, 32002, 31972, 31941, 31909, 31876, 31843, 31810, 31776, 31741, 31706, 31670, 31633, 31596, 31559,
  31520, 31482, 31442, 31402, 31362, 31321, 31279, 31237, 31194, 31151, 31107, 31063, 31018, 30973, 30927, 30880,
  30833, 30785, 30737, 30688, 30639, 30589, 30539, 30488, 30437, 30385, 30332, 30279, 30226, 30172, 30117, 30062,
  30006, 29950, 29894, 29836, 29779, 29721, 29662, 29603, 29543, 29483, 29422, 29361, 29300, 29238, 29175, 29112,
  29049, 28984, 28920, 28855, 28790, 28724, 28657, 28591, 28523, 28456, 28387, 28319, 28250, 28180, 28110, 28040]

/-- R151, `HANN` for `N` = 1024, entries 640 to 767. -/
def hann1024Part5 : List Int := [
  27969, 27897, 27826, 27754, 27681, 27608, 27534, 27461, 27386, 27312, 27237, 27161, 27085, 27009, 26932, 26855,
  26777, 26699, 26621, 26543, 26463, 26384, 26304, 26224, 26143, 26063, 25981, 25900, 25818, 25735, 25652, 25569,
  25486, 25402, 25318, 25234, 25149, 25064, 24978, 24893, 24807, 24720, 24633, 24546, 24459, 24372, 24284, 24195,
  24107, 24018, 23929, 23840, 23750, 23660, 23570, 23479, 23389, 23298, 23206, 23115, 23023, 22931, 22839, 22746,
  22653, 22560, 22467, 22374, 22280, 22186, 22092, 21998, 21903, 21808, 21713, 21618, 21523, 21427, 21332, 21236,
  21140, 21043, 20947, 20850, 20753, 20656, 20559, 20462, 20364, 20267, 20169, 20071, 19973, 19875, 19777, 19678,
  19580, 19481, 19382, 19284, 19185, 19085, 18986, 18887, 18788, 18688, 18588, 18489, 18389, 18289, 18189, 18089,
  17989, 17889, 17789, 17689, 17589, 17489, 17388, 17288, 17187, 17087, 16987, 16886, 16786, 16685, 16585, 16484]

/-- R151, `HANN` for `N` = 1024, entries 768 to 895. -/
def hann1024Part6 : List Int := [
  16384, 16283, 16182, 16082, 15981, 15881, 15780, 15680, 15580, 15479, 15379, 15278, 15178, 15078, 14978, 14878,
  14778, 14678, 14578, 14478, 14378, 14278, 14179, 14079, 13979, 13880, 13781, 13682, 13582, 13483, 13385, 13286,
  13187, 13089, 12990, 12892, 12794, 12696, 12598, 12500, 12403, 12305, 12208, 12111, 12014, 11917, 11820, 11724,
  11627, 11531, 11435, 11340, 11244, 11149, 11054, 10959, 10864, 10769, 10675, 10581, 10487, 10393, 10300, 10207,
  10114, 10021, 9928, 9836, 9744, 9652, 9561, 9469, 9378, 9288, 9197, 9107, 9017, 8927, 8838, 8749,
  8660, 8572, 8483, 8395, 8308, 8221, 8134, 8047, 7960, 7874, 7789, 7703, 7618, 7533, 7449, 7365,
  7281, 7198, 7115, 7032, 6949, 6867, 6786, 6704, 6624, 6543, 6463, 6383, 6304, 6224, 6146, 6068,
  5990, 5912, 5835, 5758, 5682, 5606, 5530, 5455, 5381, 5306, 5233, 5159, 5086, 5013, 4941, 4870]

/-- R151, `HANN` for `N` = 1024, entries 896 to 1023. -/
def hann1024Part7 : List Int := [
  4798, 4727, 4657, 4587, 4517, 4448, 4380, 4311, 4244, 4176, 4110, 4043, 3977, 3912, 3847, 3783,
  3718, 3655, 3592, 3529, 3467, 3406, 3345, 3284, 3224, 3164, 3105, 3046, 2988, 2931, 2873, 2817,
  2761, 2705, 2650, 2595, 2541, 2488, 2435, 2382, 2330, 2279, 2228, 2178, 2128, 2079, 2030, 1982,
  1934, 1887, 1840, 1794, 1749, 1704, 1660, 1616, 1573, 1530, 1488, 1446, 1405, 1365, 1325, 1285,
  1247, 1208, 1171, 1134, 1097, 1061, 1026, 991, 957, 924, 891, 858, 826, 795, 765, 734,
  705, 676, 648, 620, 593, 566, 541, 515, 491, 466, 443, 420, 398, 376, 355, 334,
  314, 295, 276, 258, 241, 224, 208, 192, 177, 162, 149, 135, 123, 111, 99, 89,
  78, 69, 60, 52, 44, 37, 30, 24, 19, 15, 11, 7, 4, 2, 1, 0]

/-- R152, `SINE256`, entries 0 to 127. -/
def sine256Part0 : List Int := [
  0, 804, 1607, 2410, 3211, 4011, 4808, 5602, 6392, 7179, 7961, 8739, 9512, 10278, 11039, 11793,
  12539, 13278, 14010, 14732, 15446, 16151, 16846, 17530, 18204, 18868, 19519, 20159, 20787, 21403, 22005, 22594,
  23170, 23732, 24279, 24812, 25330, 25832, 26319, 26790, 27245, 27684, 28106, 28511, 28898, 29269, 29621, 29956,
  30273, 30572, 30852, 31114, 31357, 31581, 31785, 31971, 32138, 32285, 32413, 32521, 32610, 32679, 32728, 32758,
  32768, 32758, 32728, 32679, 32610, 32521, 32413, 32285, 32138, 31971, 31785, 31581, 31357, 31114, 30852, 30572,
  30273, 29956, 29621, 29269, 28898, 28511, 28106, 27684, 27245, 26790, 26319, 25832, 25330, 24812, 24279, 23732,
  23170, 22594, 22005, 21403, 20787, 20159, 19519, 18868, 18204, 17530, 16846, 16151, 15446, 14732, 14010, 13278,
  12539, 11793, 11039, 10278, 9512, 8739, 7961, 7179, 6392, 5602, 4808, 4011, 3211, 2410, 1607, 804]

/-- R152, `SINE256`, entries 128 to 255. -/
def sine256Part1 : List Int := [
  0, -804, -1607, -2410, -3211, -4011, -4808, -5602, -6392, -7179, -7961, -8739, -9512, -10278, -11039, -11793,
  -12539, -13278, -14010, -14732, -15446, -16151, -16846, -17530, -18204, -18868, -19519, -20159, -20787, -21403, -22005, -22594,
  -23170, -23732, -24279, -24812, -25330, -25832, -26319, -26790, -27245, -27684, -28106, -28511, -28898, -29269, -29621, -29956,
  -30273, -30572, -30852, -31114, -31357, -31581, -31785, -31971, -32138, -32285, -32413, -32521, -32610, -32679, -32728, -32758,
  -32768, -32758, -32728, -32679, -32610, -32521, -32413, -32285, -32138, -31971, -31785, -31581, -31357, -31114, -30852, -30572,
  -30273, -29956, -29621, -29269, -28898, -28511, -28106, -27684, -27245, -26790, -26319, -25832, -25330, -24812, -24279, -23732,
  -23170, -22594, -22005, -21403, -20787, -20159, -19519, -18868, -18204, -17530, -16846, -16151, -15446, -14732, -14010, -13278,
  -12539, -11793, -11039, -10278, -9512, -8739, -7961, -7179, -6392, -5602, -4808, -4011, -3211, -2410, -1607, -804]

/-- Entry `i` of a table written as parts of 128 entries. -/
def partEntry (parts : List (List Int)) (i : Nat) : Int := (parts.getD (i / 128) []).getD (i % 128) 0

/-- R150: `SINEN` for `N` = 1024, in parts of 128 entries. -/
def sine1024 : List (List Int) :=
  [sine1024Part0, sine1024Part1, sine1024Part2, sine1024Part3, sine1024Part4, sine1024Part5, sine1024Part6,
    sine1024Part7]

/-- R151: `HANN` for `N` = 1024, in parts of 128 entries. -/
def hann1024 : List (List Int) :=
  [hann1024Part0, hann1024Part1, hann1024Part2, hann1024Part3, hann1024Part4, hann1024Part5, hann1024Part6,
    hann1024Part7]

/-- R152: `SINE256`, in parts of 128 entries. -/
def sine256Parts : List (List Int) := [sine256Part0, sine256Part1]

/-- The binary point of the series below: 2^64. -/
def seriesOne : Int := 2 ^ 64

/-- `floor (pi * 2^64)`. -/
def seriesPi : Int := 57952155664616982739

/-- The alternating Taylor series of the sine (`k = 1`, first term `x`) or the cosine (`k = 0`, first term
1), all with 64 fraction bits; `x2` is the square of the angle. -/
def taylor (x2 : Int) : Nat → Int → Int → Int → Int
  | 0, _, _, acc => acc
  | fuel + 1, k, term, acc =>
    let next := -(term * x2 / seriesOne) / ((k + 1) * (k + 2))
    taylor x2 fuel (k + 2) next (acc + next)

/-- `sin (2 pi r / n)` with 64 fraction bits, for `r < n/4`; exact at 0. -/
def quarterSine (n r : Nat) : Int :=
  if r = 0 then 0
  else
    let x := 2 * seriesPi * r / n
    taylor (x * x / seriesOne) 14 1 x x

/-- `cos (2 pi r / n)` with 64 fraction bits, for `r < n/4`; exact at 0. -/
def quarterCosine (n r : Nat) : Int :=
  if r = 0 then seriesOne
  else
    let x := 2 * seriesPi * r / n
    taylor (x * x / seriesOne) 14 0 seriesOne seriesOne

/-- `sin (2 pi i / n)` with 64 fraction bits, for `n` a multiple of 4 and `i < n`, by quarter cycles. -/
def seriesSine (n i : Nat) : Int :=
  let r := i % (n / 4)
  match i / (n / 4) with
  | 0 => quarterSine n r
  | 1 => quarterCosine n r
  | 2 => -quarterSine n r
  | _ => -quarterCosine n r

/-- R132, R134: `trunc (2^15 * sin (2 pi i / n))`. -/
def computedSine (n i : Nat) : Int := truncdiv (32768 * seriesSine n i) seriesOne

/-- R132, R135: `trunc (2^15 * (1 - cos (2 pi i / n)) / 2)`. -/
def computedHann (n i : Nat) : Int :=
  truncdiv (16384 * (seriesOne - seriesSine n ((i + n / 4) % n))) seriesOne

/-- R33, R133: entry `i` of `SINE256`; its index port has 8 bits (R131). -/
def sine256 (i : Nat) : Word := wrap32 (partEntry sine256Parts (i % 256))

/-- R33, R134: entry `i` of `SINEN` for `N` = `n`; its index port has `LOG2N` bits (R131). -/
def sineN (n i : Nat) : Word :=
  if n ≤ 1024 then wrap32 (partEntry sine1024 (i % n * (1024 / n)))
  else wrap32 (computedSine n (i % n))

/-- R33, R135: entry `i` of `HANN` for `N` = `n`; its index port has `LOG2N` bits (R131). -/
def hann (n i : Nat) : Word :=
  if n ≤ 1024 then wrap32 (partEntry hann1024 (i % n * (1024 / n)))
  else wrap32 (computedHann n (i % n))

end Sys2Proof.Machine
end

