-- ==== Sys2Proof/Machine/Kernel.lean ====
section
/-! DEFINITION. The functions of the arithmetic kernel (`spec/40_fixed_point.md`), the magnitude estimate
(`spec/46_magnitude_peak.md` R231) and bit reversal (`spec/45_fft.md` R211), used by every unit. -/

namespace Sys2Proof.Machine

/-- R111 `from_int`. -/
def fromInt (n : Word) : Word := wrap32 (n.toInt * 2 ^ 15)

/-- R112 `from_float`; `free` stands where the spec leaves the result unspecified (U1). -/
def fromFloat (free x : Word) : Word :=
  match f32ToFixed x with
  | some t => wrap32 t
  | none => free

/-- R113 `to_float`. -/
def toFloat (a : Word) : Word :=
  let magnitude := f32Rne a.toInt.natAbs (2 ^ 15)
  if a.toInt < 0 then magnitude ||| 0x80000000 else magnitude

/-- R114 `to_int`. -/
def toInt32 (a : Word) : Word := wrap32 (asr a.toInt 15)

/-- R115 `mul`. -/
def mul (a b : Word) : Word := wrap32 (asr (a.toInt * b.toInt) 15)

/-- R116 `div` for a divisor that is not 0. -/
def div (a b : Word) : Word := wrap32 (truncdiv (a.toInt * 2 ^ 15) b.toInt)

/-- R117 `abs`. -/
def abs32 (a : Word) : Word := if 0 ≤ a.toInt then a else wrap32 (-a.toInt)

/-- R118 `add32`. -/
def add32 (a b : Word) : Word := wrap32 (a.toInt + b.toInt)

/-- R118 `sub32`. -/
def sub32 (a b : Word) : Word := wrap32 (a.toInt - b.toInt)

/-- R118 `neg32`. -/
def neg32 (a : Word) : Word := wrap32 (-a.toInt)

/-- R118 `asr(v, 1)`. -/
def half (v : Word) : Word := wrap32 (asr v.toInt 1)

/-- R13 `max` on signed values. -/
def maxSigned (a b : Word) : Word := if a.toInt < b.toInt then b else a

/-- R13 `min` on signed values. -/
def minSigned (a b : Word) : Word := if a.toInt < b.toInt then a else b

/-- R231 `MAG(re, im)`. -/
def magnitude (beta re im : Word) : Word :=
  add32 (maxSigned (abs32 re) (abs32 im)) (mul (minSigned (abs32 re) (abs32 im)) beta)

/-- R211: the `bits`-bit form of `m` read backwards. -/
def bitrev : Nat → Nat → Nat
  | 0, _ => 0
  | bits + 1, m => m % 2 * 2 ^ bits + bitrev bits (m / 2)

/-- R213: the table index of the twiddle of group `m` in the pass of length `l`. -/
def twiddleIndex (n l m : Nat) : Nat := m * (n / (2 * l))

/-- R213: half the cosine. -/
def twiddleRe (n l m : Nat) : Word := half (sineN n (twiddleIndex n l m + n / 4))

/-- R213: half of minus the sine; negated, then shifted. -/
def twiddleIm (n l m : Nat) : Word := half (neg32 (sineN n (twiddleIndex n l m)))

end Sys2Proof.Machine
end

