-- ==== Sys2Proof/Machine/Flags.lean ====
section
/-! DEFINITION. The status codes and the sticky error register (`spec/10_state.md` R22, R24, R25,
`spec/60_exceptions.md` R281). The block has no condition codes: no arithmetic writes a flag (R22). -/

namespace Sys2Proof.Machine

/-- R281: the code of a status, the same number in `st` and in `LAST_CAUSE`. -/
def Status.code (k : Status) : BitVec 3 :=
  match k with
  | .ok => 0
  | .div0 => 1
  | .cfgerr => 2
  | .periph => 3
  | .illcmd => 4
  | .notReady => 5
  | .notRunning => 6

/-- R281, R283: the sticky bit of an error, `STATUS[K-1]`; no bit for a status that is no error (R289). -/
def Status.stickyBit (k : Status) : BitVec 4 :=
  match k with
  | .ok => 0
  | .div0 => 0b0001
  | .cfgerr => 0b0010
  | .periph => 0b0100
  | .illcmd => 0b1000
  | .notReady => 0
  | .notRunning => 0

/-- R24: `STATUS[K-1] <- 1`; a bit is set and never cleared. -/
def setSticky (status : BitVec 4) (k : Status) : BitVec 4 := status ||| k.stickyBit

/-- R23: the code on the `run_state` port. -/
def RunState.code (r : RunState) : BitVec 2 :=
  match r with
  | .init => 0
  | .running => 1
  | .halted => 2

end Sys2Proof.Machine
end

