-- ==== Sys2Proof/Machine/Ops.lean ====
section
/-! DEFINITION. The named operations over storage and registers that the meanings are written with: storage
reads and writes (`spec/20_memory.md`), answering a request, raising an error (`spec/60_exceptions.md`
R283), the checks every request passes (R290), and the outputs. The block has no trap entry and no
return from one (R291): `State.raise` is the whole of taking an error. -/

namespace Sys2Proof.Machine

/-- `MemRead` of a store: the element at index `i`, none where nothing has written it (R60, R73). -/
def readStore : Store → Nat → Option Word
  | [], _ => none
  | (j, v) :: rest, i => if i = j then some v else readStore rest i

/-- `MemWrite` of a store, keeping the indices strictly rising (R60). -/
def writeStore : Store → Nat → Word → Store
  | [], i, v => [(i, v)]
  | (j, u) :: rest, i, v =>
    if i < j then (i, v) :: (j, u) :: rest
    else if i = j then (i, v) :: rest
    else (j, u) :: writeStore rest i v

/-- The store that holds a space. -/
def Memory.store (m : Memory) (sp : Space) : Store :=
  match sp with
  | .buf .buf0 => m.buf0
  | .buf .buf1 => m.buf1
  | .re => m.re
  | .im => m.im

/-- R60 `MemRead(SPACE, i)`. -/
def Memory.read (m : Memory) (sp : Space) (i : Nat) : Option Word := readStore (m.store sp) i

/-- R60 `MemWrite(SPACE, i, v)`. -/
def Memory.write (m : Memory) (sp : Space) (i : Nat) (v : Word) : Memory :=
  match sp with
  | .buf .buf0 => { m with buf0 := writeStore m.buf0 i v }
  | .buf .buf1 => { m with buf1 := writeStore m.buf1 i v }
  | .re => { m with re := writeStore m.re i v }
  | .im => { m with im := writeStore m.im i v }

/-- The canonical form of one store with `n` elements: strictly rising indices, all below `n`. -/
abbrev storeWf (n : Nat) (st : Store) : Prop :=
  st.Pairwise (fun a b => a.1 < b.1) ∧ ∀ p ∈ st, p.1 < n

/-- The canonical form of the storage of a block with `N` = `n`. -/
abbrev Memory.wf (n : Nat) (m : Memory) : Prop :=
  storeWf n m.buf0 ∧ storeWf n m.buf1 ∧ storeWf n m.re ∧ storeWf n m.im

/-- R90, R95: the block answers the request; `res` is 0 unless a result is given. -/
def State.answer (s : State) (st : Status) (res : Word) : State :=
  { s with reply := some ⟨res, st⟩ }

/-- R283 without the answer: the sticky bit and `LAST_CAUSE` (also what initialisation does, R328). -/
def State.record (s : State) (k : Status) : State :=
  { s with status := setSticky s.status k, lastCause := k.code }

/-- R283 `raise K`: the sticky bit, `LAST_CAUSE`, `res` = 0 and `st` = K; nothing else happens. -/
def State.raise (s : State) (k : Status) : State := (s.record k).answer k 0

/-- R104, R290 check 1: while the block is not RUNNING, a request changes nothing and answers
NOTRUNNING. -/
def State.whileRunning (s : State) (body : State → Out) : Out :=
  match s.runState with
  | .running => body s
  | .init => .next (s.answer .notRunning 0)
  | .halted => .next (s.answer .notRunning 0)

/-- R290 checks 1 and 3: the block is RUNNING, and the requester is the operation's issuer (R97); from
any other agent the request is illegal (R100, R288). -/
def State.fromIssuer (s : State) (issuer : Agent) (body : State → Out) : Out :=
  s.whileRunning fun s => if s.agent = issuer then body s else .next (s.raise .illcmd)

/-- R100: a request that selects no row of the opcode table. -/
def State.illegal (s : State) : Out := s.whileRunning fun s => .next (s.raise .illcmd)

/-- R266: `CORE_OWNER[c] <- o`. -/
def State.setOwner (s : State) (c : CoreId) (o : Owner) : State :=
  { s with coreOwner := s.coreOwner.set c o }

/-- R52: the block emits one output event. -/
def State.emit (s : State) (o : Output) : State := { s with emitted := o :: s.emitted }

/-- Per-core synthesis registers (R27 to R32). -/
def State.setSynth (s : State) (c : CoreId) (y : Synth) : State := { s with synth := s.synth.set c y }

/-- Per-core heartbeat registers (R42, R44, R46). -/
def State.setHeart (s : State) (c : CoreId) (h : Heart) : State := { s with heart := s.heart.set c h }

/-- The evaluation goes on with the storage computed, or stops where it needed an element that nothing
has written (R73, U8). -/
def State.withMemory (s : State) (m : Option Memory) (k : State → State) : Out :=
  match m with
  | some m => .next (k { s with mem := m })
  | none => .fault .readUnwritten

/-- R52: bit `c` of the `sleep_req` port. -/
def State.sleepReq (s : State) (c : CoreId) : Bool := (s.heart.get c).sleepState == .counting

/-- R52: the `status` port. -/
def State.statusPort (s : State) : BitVec 4 := s.status

/-- R52: the `cause` port. -/
def State.causePort (s : State) : BitVec 3 := s.lastCause

/-- R52: the `run_state` port. -/
def State.runStatePort (s : State) : BitVec 2 := s.runState.code

/-- R52: the `st` port for the request just answered, where one was. -/
def State.stPort (s : State) : Option (BitVec 3) := s.reply.map fun r => r.st.code

end Sys2Proof.Machine
end

