-- ==== Sys2Proof/Machine/CapturePath.lean ====
section
/-! DEFINITION. Unit 6, the double-buffered capture path (`spec/44_capture.md`). -/

namespace Sys2Proof.Machine

/-- R191: the armed branch of `ACQ_PUSH`: store the sample, advance the pointer, and after the N-th sample
end the epoch. -/
def State.storeSample (s : State) (opa : Word) : State :=
  let p := s.cap.wrPtr + 1
  let full := decide (p.toNat = s.cfg.n)
  { s with
    mem := s.mem.write (.buf s.cap.fillSel) s.cap.wrPtr.toNat (sampleOperand s.cfg.sampleBits opa)
    cap := { s.cap with
      wrPtr := p
      armed := !full
      epochDone := full || s.cap.epochDone } }

/-- R191 `ACQ_PUSH`: a sample that arrives while `ARMED` = 0 is dropped and still answered OK. An index at
`N` or above names no element (log 12). -/
def execAcqPush (opa : Word) (s : State) : Out :=
  s.fromIssuer .acq fun s =>
    match s.cap.armed with
    | false => .next (s.answer .ok 0)
    | true =>
      if s.cap.wrPtr.toNat < s.cfg.n then .next ((s.storeSample opa).answer .ok 0)
      else .fault .indexOutOfRange

/-- R193 `CAP_WAIT`: a suspension point, whatever it answers. -/
def execCapWait (s : State) : Out :=
  s.fromIssuer .ct fun s =>
    .next ((s.setOwner .c0 .none).answer (if s.cap.epochDone then .ok else .notReady) 0)

/-- R194: the two buffers exchange their roles and acquisition restarts. -/
def State.rearm (s : State) : State :=
  { s with cap :=
    { fillSel := s.cap.consSel, consSel := s.cap.fillSel, wrPtr := 0, armed := true, epochDone := false } }

/-- R194 `CAP_REARM`. -/
def execCapRearm (s : State) : Out :=
  s.fromIssuer .ct fun s =>
    match s.cap.epochDone with
    | true => .next ((s.rearm.setOwner .c0 .ct).answer .ok 0)
    | false => .next ((s.setOwner .c0 .ct).answer .notReady 0)

/-- R196: one iteration of `WIN_LOAD`. -/
def windowElement (n : Nat) (b : BufSel) (m : Memory) (i : Nat) : Option Memory :=
  match m.read (.buf b) i with
  | some x => some ((m.write .re i (mul (fromInt x) (hann n i))).write .im i 0)
  | none => none

/-- R196: the loop of `WIN_LOAD` over `i` = 0 .. N-1. -/
def windowLoad (n : Nat) (b : BufSel) (m : Memory) : Option Memory :=
  (List.range n).foldlM (windowElement n b) m

/-- R196 `WIN_LOAD`. -/
def execWinLoad (s : State) : Out :=
  s.fromIssuer .ct fun s =>
    s.withMemory (windowLoad s.cfg.n s.cap.consSel s.mem) fun s => (s.setOwner .c0 .ct).answer .ok 0

end Sys2Proof.Machine
end

