-- ==== Sys2Proof/Machine/Dds.lean ====
section
/-! DEFINITION. Units 4 and 5, the oscillator and the envelope of each core (`spec/43_dds_envelope.md`). -/

namespace Sys2Proof.Machine

/-- R165: the sample computed from an amplitude and a table entry, before it is cut to the DAC width. -/
def ddsValue (g : Cfg) (amplitude sine : Word) : Word :=
  add32 (toInt32 (mul (mul amplitude sine) g.outputScale)) g.dcOffset

/-- R165: steps 1 to 3 of the tick on one core's registers; the index is taken from the new phase. -/
def ddsSample (g : Cfg) (y : Synth) : Synth :=
  let phase := y.phaseAcc + y.phaseInc
  let sine := sine256 (phase.toNat / 2 ^ 24)
  { y with phaseAcc := phase, dacOut := lowBits16 g.dacDataBits (ddsValue g y.envAmp sine) }

/-- R170: the amplitude after the ramp test, which sees `ENV_ELAPSED` before its increment; attack has
priority over decay. -/
def rampAmplitude (g : Cfg) (attackInc decayInc : Word) (y : Synth) : Word :=
  if y.envElapsed.toNat < g.attackTime.toNat then add32 y.envAmp attackInc
  else if g.beepDuration - g.decayTime.toNat < y.envElapsed.toNat then sub32 y.envAmp decayInc
  else y.envAmp

/-- R170: step 4 of the tick on one core's registers; the equality tests see the new `ENV_ELAPSED`. -/
def envStep (g : Cfg) (attackInc decayInc : Word) (y : Synth) : Synth :=
  let elapsed := y.envElapsed + 1
  match y.envState with
  | .active =>
    if elapsed.toNat = g.beepDuration then { y with envState := .silent, envElapsed := 0, envAmp := 0 }
    else { y with envElapsed := elapsed, envAmp := rampAmplitude g attackInc decayInc y }
  | .silent =>
    if elapsed = g.beepRepeatInterval then { y with envState := .active, envElapsed := 0, envAmp := 0 }
    else { y with envElapsed := elapsed, envAmp := 0 }

/-- R175, R177: the 16-bit DAC word of core `c`. -/
def dacWord (g : Cfg) (c : CoreId) (y : Synth) : BitVec 16 := g.dacTag.get c ||| y.dacOut

/-- R165 on core `c`. -/
def State.ddsSample (s : State) (c : CoreId) : State :=
  s.setSynth c (Sys2Proof.Machine.ddsSample s.cfg (s.synth.get c))

/-- R170 on core `c`. -/
def State.envStep (s : State) (c : CoreId) : State :=
  s.setSynth c (Sys2Proof.Machine.envStep s.cfg s.attackInc s.decayInc (s.synth.get c))

/-- R175 on core `c`: exactly one word is emitted, and it is the result. -/
def State.dacPush (s : State) (c : CoreId) : State :=
  let w := dacWord s.cfg c (s.synth.get c)
  (s.emit (.dac w)).answer .ok (w.setWidth 32)

/-- R165 `DDS_SAMPLE c`. -/
def execDdsSample (c : CoreId) (s : State) : Out :=
  s.fromIssuer (.timer c) fun s => .next ((s.ddsSample c).answer .ok 0)

/-- R170 `ENV_STEP c`. -/
def execEnvStep (c : CoreId) (s : State) : Out :=
  s.fromIssuer (.timer c) fun s => .next ((s.envStep c).answer .ok 0)

/-- R175 `DAC_PUSH c`. -/
def execDacPush (c : CoreId) (s : State) : Out :=
  s.fromIssuer (.timer c) fun s => .next (s.dacPush c)

/-- R178 `DDS_TICK c`: `DDS_SAMPLE c; ENV_STEP c; DAC_PUSH c` as one atomic operation (R99). -/
def execDdsTick (c : CoreId) (s : State) : Out :=
  s.fromIssuer (.timer c) fun s => .next (((s.ddsSample c).envStep c).dacPush c)

end Sys2Proof.Machine
end

