-- ==== Sys2Proof/Machine/FixedPoint.lean ====
section
/-! DEFINITION. Unit 1, the Q16.15 arithmetic kernel (`spec/40_fixed_point.md`). -/

namespace Sys2Proof.Machine

/-- R111 `FX_FROM_INT`. -/
def execFxFromInt (opa : Word) (s : State) : Out :=
  s.fromIssuer .host fun s => .next (s.answer .ok (fromInt opa))

/-- R112 `FX_FROM_FLOAT`. Where the result is unspecified (U1) it is the next free value, the status is OK
and no register changes (log 7). -/
def execFxFromFloat (opa : Word) (s : State) : Out :=
  s.fromIssuer .host fun s =>
    .next ({ s with draws := s.draws + 1 }.answer .ok (fromFloat (Config.freeWord s.draws) opa))

/-- R113 `FX_TO_FLOAT`. -/
def execFxToFloat (opa : Word) (s : State) : Out :=
  s.fromIssuer .host fun s => .next (s.answer .ok (toFloat opa))

/-- R114 `FX_TO_INT`. -/
def execFxToInt (opa : Word) (s : State) : Out :=
  s.fromIssuer .host fun s => .next (s.answer .ok (toInt32 opa))

/-- R115 `FX_MUL`. -/
def execFxMul (opa opb : Word) (s : State) : Out :=
  s.fromIssuer .host fun s => .next (s.answer .ok (mul opa opb))

/-- R116 `FX_DIV`; a zero divisor raises DivideByZero (R284). -/
def execFxDiv (opa opb : Word) (s : State) : Out :=
  s.fromIssuer .host fun s =>
    if opb.toInt = 0 then .next (s.raise .div0) else .next (s.answer .ok (div opa opb))

/-- R117 `FX_ABS`. -/
def execFxAbs (opa : Word) (s : State) : Out :=
  s.fromIssuer .host fun s => .next (s.answer .ok (abs32 opa))

end Sys2Proof.Machine
end

