-- ==== Sys2Proof/Machine/Luts.lean ====
section
/-! DEFINITION. Units 2 and 3, reads of the sine, cosine and Hann tables (`spec/41_luts.md`). -/

namespace Sys2Proof.Machine

/-- R136 `SIN_DDS`. -/
def execSinDds (opa : Word) (s : State) : Out :=
  s.fromIssuer .host fun s => .next (s.answer .ok (sine256 (tableIndex 256 opa)))

/-- R137 `SIN_FFT`. -/
def execSinFft (opa : Word) (s : State) : Out :=
  s.fromIssuer .host fun s => .next (s.answer .ok (sineN s.cfg.n (tableIndex s.cfg.n opa)))

/-- R138 `COS_FFT`: the sine a quarter cycle later, the carry of the index adder lost. -/
def execCosFft (opa : Word) (s : State) : Out :=
  s.fromIssuer .host fun s =>
    .next (s.answer .ok (sineN s.cfg.n ((tableIndex s.cfg.n opa + s.cfg.n / 4) % s.cfg.n)))

/-- R139 `HANN_RD`. -/
def execHannRd (opa : Word) (s : State) : Out :=
  s.fromIssuer .host fun s => .next (s.answer .ok (hann s.cfg.n (tableIndex s.cfg.n opa)))

end Sys2Proof.Machine
end

