-- ==== Sys2Proof/Machine/Peak.lean ====
section
/-! DEFINITION. Unit 8, the magnitude estimate, the peak search and the publication
(`spec/46_magnitude_peak.md`). -/

namespace Sys2Proof.Machine

/-- R231 `MAG`. -/
def execMag (opa opb : Word) (s : State) : Out :=
  s.fromIssuer .host fun s => .next (s.answer .ok (magnitude s.cfg.beta opa opb))

/-- R232: one iteration of the search; the running maximum and its bin. The comparison is signed and
strict. -/
def peakElement (g : Cfg) (m : Memory) (best : Word × Nat) (i : Nat) : Option (Word × Nat) :=
  match m.read .re i, m.read .im i with
  | some re, some im =>
    let mag := magnitude g.beta re im
    if g.peakMinBin ≤ i ∧ best.1.toInt < mag.toInt then some (mag, i) else some best
  | _, _ => none

/-- R232: the search over bins 0 .. N/2-1, ascending, started afresh at (0, 0). -/
def peakSearch (g : Cfg) (m : Memory) : Option (Word × Nat) :=
  (List.range (g.n / 2)).foldlM (peakElement g m) (0, 0)

/-- R232 `PEAK_SCAN`. -/
def execPeakScan (s : State) : Out :=
  s.fromIssuer .ct fun s =>
    match peakSearch s.cfg s.mem with
    | some (mag, i) =>
      .next (({ s with cons := { s.cons with maxMag := mag, maxIdx := BitVec.ofNat 16 i } }.setOwner .c0 .ct).answer
        .ok (BitVec.ofNat 32 i))
    | none => .fault .readUnwritten

/-- R235: `f32_rne (MAX_IDX * FS_ACQ / N)`. -/
def peakFrequency (g : Cfg) (idx : Nat) : Word := f32Rne (idx * g.fsAcq) g.n

/-- R235 `PUB_FREQ`. -/
def execPubFreq (s : State) : Out :=
  s.fromIssuer .ct fun s =>
    .next (({ s with tele := { s.tele with
      maxFrequency := peakFrequency s.cfg s.cons.maxIdx.toNat } }.setOwner .c0 .ct).answer .ok 0)

/-- R236 `PUB_CNT_LD`. -/
def execPubCntLd (s : State) : Out :=
  s.fromIssuer .ct fun s =>
    .next (({ s with cons := { s.cons with cntTmp := s.tele.fftCount } }.setOwner .c0 .ct).answer .ok 0)

/-- R237 `PUB_CNT_ST`. -/
def execPubCntSt (s : State) : Out :=
  s.fromIssuer .ct fun s =>
    .next (({ s with tele := { s.tele with fftCount := s.cons.cntTmp + 1 } }.setOwner .c0 .ct).answer .ok 0)

end Sys2Proof.Machine
end

