-- ==== Sys2Proof/Machine/Sync.lean ====
section
/-! DEFINITION. Unit 9, the semaphores, the heartbeat body and the sleep (`spec/47_semaphore_sync.md`). -/

namespace Sys2Proof.Machine

/-- R251 `SEM_WAIT c`: test and clear in one access; a suspension point, whatever it answers. -/
def execSemWait (c : CoreId) (s : State) : Out :=
  s.fromIssuer (.hb c) fun s =>
    match s.go.get c with
    | true => .next (({ s with go := s.go.set c false }.setOwner c .none).answer .ok 0)
    | false => .next ((s.setOwner c .none).answer .notReady 0)

/-- R252 `SEM_SIGNAL c`: sets the OTHER core's semaphore; binary, no count. -/
def execSemSignal (c : CoreId) (s : State) : Out :=
  s.fromIssuer (.hb c) fun s =>
    .next (({ s with go := s.go.set c.other true }.setOwner c .hb).answer .ok 0)

/-- R253: the increment of the shared counter and its latch, one atomic access. -/
def State.countFiring (s : State) (c : CoreId) : State :=
  let v := s.tele.pingPong + 1
  { s with tele := { s.tele with pingPong := v } }.setHeart c { s.heart.get c with rptCnt := v }

/-- R253 `HB_COUNT c`. -/
def execHbCount (c : CoreId) (s : State) : Out :=
  s.fromIssuer (.hb c) fun s =>
    .next (((s.countFiring c).setOwner c .hb).answer .ok (s.tele.pingPong + 1))

/-- R254 `HB_RD_FREQ c`. -/
def execHbRdFreq (c : CoreId) (s : State) : Out :=
  s.fromIssuer (.hb c) fun s =>
    .next (((s.setHeart c { s.heart.get c with rptFreq := s.tele.maxFrequency }).setOwner c .hb).answer .ok 0)

/-- R255 `HB_RD_FFT c`. -/
def execHbRdFft (c : CoreId) (s : State) : Out :=
  s.fromIssuer (.hb c) fun s =>
    .next (((s.setHeart c { s.heart.get c with rptFft := s.tele.fftCount }).setOwner c .hb).answer .ok 0)

/-- R256: the status line of core `c`. -/
def statusLine (c : CoreId) (h : Heart) : Output := .con c h.rptCnt h.rptFreq h.rptFft

/-- R256 `HB_EMIT c`: with the console not ready it raises PERIPH (R286) and the line is skipped; the task
keeps the core in both cases (R283). -/
def execHbEmit (c : CoreId) (s : State) : Out :=
  s.fromIssuer (.hb c) fun s =>
    match s.conReady with
    | true => .next (((s.emit (statusLine c (s.heart.get c))).setOwner c .hb).answer .ok 0)
    | false => .next ((s.raise .periph).setOwner c .hb)

/-- R257 `HB_CLEAR c`. -/
def execHbClear (c : CoreId) (s : State) : Out :=
  s.fromIssuer (.hb c) fun s =>
    .next (({ s with tele := { s.tele with fftCount := 0 } }.setOwner c .hb).answer .ok 0)

/-- `SLEEP_STATE[c] <- v`. -/
def State.setSleep (s : State) (c : CoreId) (v : SleepState) : State :=
  s.setHeart c { s.heart.get c with sleepState := v }

/-- R258 `HB_SLEEP c`: starts the sleep, polls it, or ends it; a suspension point, whatever it answers. -/
def execHbSleep (c : CoreId) (s : State) : Out :=
  s.fromIssuer (.hb c) fun s =>
    match (s.heart.get c).sleepState with
    | .idle => .next (((s.setSleep c .counting).setOwner c .none).answer .notReady 0)
    | .counting => .next ((s.setOwner c .none).answer .notReady 0)
    | .expired => .next (((s.setSleep c .idle).setOwner c .none).answer .ok 0)

/-- R259 `SLEEP_EXPIRE c`: not subject to the core-owner rule. -/
def execSleepExpire (c : CoreId) (s : State) : Out :=
  s.fromIssuer (.sleepTimer c) fun s =>
    match (s.heart.get c).sleepState with
    | .idle => .next (s.answer .ok 0)
    | .counting => .next ((s.setSleep c .expired).answer .ok 0)
    | .expired => .next (s.answer .ok 0)

end Sys2Proof.Machine
end

