-- ==== Sys2Proof/Machine/Transform.lean ====
section
/-! DEFINITION. Unit 7, the in-place radix-2 transform (`spec/45_fft.md`). The order of every rounding is
normative (R220). -/

namespace Sys2Proof.Machine

/-- Exchange two elements of a space. -/
def swapElements (sp : Space) (m : Memory) (i j : Nat) : Option Memory :=
  match m.read sp i, m.read sp j with
  | some x, some y => some ((m.write sp i y).write sp j x)
  | _, _ => none

/-- R212: one iteration of the bit-reversal loop: exchange where `mr > k`. -/
def bitrevElement (bits : Nat) (m : Memory) (k : Nat) : Option Memory :=
  let kr := bitrev bits k
  if k < kr then
    match swapElements .re m k kr with
    | some m => swapElements .im m k kr
    | none => none
  else some m

/-- R212: the loop over `m` = 1 .. N-2. -/
def bitrevAll (n : Nat) (m : Memory) : Option Memory :=
  (List.range' 1 (n - 2)).foldlM (bitrevElement n.log2) m

/-- R214: one butterfly, on elements `i` and `j` with the twiddle `(wr, wi)`; both elements are read before
either is written. -/
def butterfly (wr wi : Word) (m : Memory) (i j : Nat) : Option Memory :=
  match m.read .re i, m.read .im i, m.read .re j, m.read .im j with
  | some ri, some ii, some rj, some ij =>
    let tr := sub32 (mul wr rj) (mul wi ij)
    let ti := add32 (mul wr ij) (mul wi rj)
    let qr := half ri
    let qi := half ii
    some ((((m.write .re j (sub32 qr tr)).write .im j (sub32 qi ti)).write .re i (add32 qr tr)).write
      .im i (add32 qi ti))
  | _, _, _, _ => none

/-- R214: the butterflies of group `k`: `i` = `k`, `k + 2L`, ... while `i < N`, which are `N / 2L` values
(log 20). -/
def passGroup (n l : Nat) (m : Memory) (k : Nat) : Option Memory :=
  (List.range (n / (2 * l))).foldlM
    (fun m b => butterfly (twiddleRe n l k) (twiddleIm n l k) m (k + b * (2 * l)) (k + b * (2 * l) + l)) m

/-- R214: the pass of length `l`, groups 0 .. L-1. -/
def fftPass (n l : Nat) (m : Memory) : Option Memory := (List.range l).foldlM (passGroup n l) m

/-- R216, R217: the passes `L` = 1, 2, 4, ..., N/2, which are `LOG2N` passes (log 20). -/
def fftPasses (n : Nat) (m : Memory) : Option Memory :=
  (List.range n.log2).foldlM (fun m k => fftPass n (2 ^ k) m) m

/-- R217: the whole transform. -/
def fftRun (n : Nat) (m : Memory) : Option Memory :=
  match bitrevAll n m with
  | some m => fftPasses n m
  | none => none

/-- R212 `FFT_BITREV`. -/
def execFftBitrev (s : State) : Out :=
  s.fromIssuer .ct fun s =>
    s.withMemory (bitrevAll s.cfg.n s.mem) fun s => (s.setOwner .c0 .ct).answer .ok 0

/-- R214 `FFT_PASS`: an `L` that is not legal makes the request illegal. -/
def execFftPass (opa : Word) (s : State) : Out :=
  s.fromIssuer .ct fun s =>
    if legalPassLength s.cfg.n opa.toNat then
      s.withMemory (fftPass s.cfg.n opa.toNat s.mem) fun s => (s.setOwner .c0 .ct).answer .ok 0
    else .next (s.raise .illcmd)

/-- R217 `FFT_RUN`: the composite, atomic as a whole (R99). -/
def execFftRun (s : State) : Out :=
  s.fromIssuer .ct fun s =>
    s.withMemory (fftRun s.cfg.n s.mem) fun s => (s.setOwner .c0 .ct).answer .ok 0

end Sys2Proof.Machine
end

