-- ==== Sys2Proof/Machine/Dispatch.lean ====
section
/-! DEFINITION. The meaning of each operation, one arm per row of the opcode table (`spec/30_encoding.md` R92). -/

namespace Sys2Proof.Machine

def exec (i : Instr) (s : State) : Host.Outcome State Fault Refusal :=
  match i with
  | .fxFromInt opa => Sys2Proof.Machine.execFxFromInt opa s
  | .fxFromFloat opa => Sys2Proof.Machine.execFxFromFloat opa s
  | .fxToFloat opa => Sys2Proof.Machine.execFxToFloat opa s
  | .fxToInt opa => Sys2Proof.Machine.execFxToInt opa s
  | .fxMul opa opb => Sys2Proof.Machine.execFxMul opa opb s
  | .fxDiv opa opb => Sys2Proof.Machine.execFxDiv opa opb s
  | .fxAbs opa => Sys2Proof.Machine.execFxAbs opa s
  | .sinDds opa => Sys2Proof.Machine.execSinDds opa s
  | .sinFft opa => Sys2Proof.Machine.execSinFft opa s
  | .cosFft opa => Sys2Proof.Machine.execCosFft opa s
  | .hannRd opa => Sys2Proof.Machine.execHannRd opa s
  | .ddsTick c => Sys2Proof.Machine.execDdsTick c s
  | .ddsSample c => Sys2Proof.Machine.execDdsSample c s
  | .dacPush c => Sys2Proof.Machine.execDacPush c s
  | .envStep c => Sys2Proof.Machine.execEnvStep c s
  | .acqPush opa => Sys2Proof.Machine.execAcqPush opa s
  | .capWait => Sys2Proof.Machine.execCapWait s
  | .capRearm => Sys2Proof.Machine.execCapRearm s
  | .winLoad => Sys2Proof.Machine.execWinLoad s
  | .fftBitrev => Sys2Proof.Machine.execFftBitrev s
  | .fftPass opa => Sys2Proof.Machine.execFftPass opa s
  | .fftRun => Sys2Proof.Machine.execFftRun s
  | .mag opa opb => Sys2Proof.Machine.execMag opa opb s
  | .peakScan => Sys2Proof.Machine.execPeakScan s
  | .pubFreq => Sys2Proof.Machine.execPubFreq s
  | .pubCntLd => Sys2Proof.Machine.execPubCntLd s
  | .pubCntSt => Sys2Proof.Machine.execPubCntSt s
  | .semWait c => Sys2Proof.Machine.execSemWait c s
  | .semSignal c => Sys2Proof.Machine.execSemSignal c s
  | .hbCount c => Sys2Proof.Machine.execHbCount c s
  | .hbRdFreq c => Sys2Proof.Machine.execHbRdFreq c s
  | .hbRdFft c => Sys2Proof.Machine.execHbRdFft c s
  | .hbEmit c => Sys2Proof.Machine.execHbEmit c s
  | .hbClear c => Sys2Proof.Machine.execHbClear c s
  | .hbSleep c => Sys2Proof.Machine.execHbSleep c s
  | .sleepExpire c => Sys2Proof.Machine.execSleepExpire c s

end Sys2Proof.Machine
end

