-- ==== Sys2Proof/Machine/Reset.lean ====
section
/-! DEFINITION. Reset and the initialisation sequence (`spec/70_reset_and_hazards.md` R320 to R328). -/

namespace Sys2Proof.Machine

/-- R326: the conditions (a) to (g) that are a ConfigurationError. -/
def configError (g : Cfg) : Bool :=
  (!isPow2 g.n || decide (g.n < 4) || decide (65536 < g.n))
    || (g.fsAcq == 0 || g.tickRate == 0 || g.handshakeIntervalUs == 0)
    || (decide (2 ^ 32 ≤ g.fsAcq) || decide (2 ^ 32 ≤ g.tickRate))
    || decide (2 ^ 32 ≤ g.beepDuration)
    || (g.dacDataBits == 0 || decide (16 < g.dacDataBits)
        || g.dacTag.at0.toNat % 2 ^ g.dacDataBits != 0 || g.dacTag.at1.toNat % 2 ^ g.dacDataBits != 0)
    || (g.sampleBits == 0 || decide (16 < g.sampleBits))
    || decide (2 ^ 16 ≤ g.peakMinBin)

/-- R320: `rst` = 1. Every register holds its reset value and nothing survives; what is still to come from
outside, and the record of what was emitted, are not the block's. -/
def State.holdReset (s : State) : State :=
  { State.held Config.unsampledCfg with
    agent := s.agent
    conReady := s.conReady
    emitted := s.emitted
    inbox := s.inbox
    arrivals := s.arrivals
    draws := s.draws }

/-- R328: a failed step records its error and halts the block. Nothing else is written: every register that an
earlier step did not write keeps its `rst` = 1 value. -/
def State.halt (s : State) (k : Status) : State := { s.record k with runState := .halted }

/-- R321: step 1. `CFG` is sampled; no other register is written. -/
def State.sampleConfig (s : State) (g : Cfg) : State := { s with cfg := g }

/-- R324: step 4, for divisors that are not 0. -/
def State.setIncrements (s : State) : State :=
  { s with
    attackInc := div s.cfg.maxAmplitude (fromInt s.cfg.attackTime)
    decayInc := div s.cfg.maxAmplitude (fromInt s.cfg.decayTime) }

/-- R27 to R31, R325: the synthesis registers of one core; `DAC_OUT` is not written. -/
def Synth.initial (y : Synth) (phaseInc : Word) : Synth :=
  { y with envState := .active, envElapsed := 0, envAmp := 0, phaseAcc := 0, phaseInc := phaseInc }

/-- R42, R44, R325: the heartbeat registers of one core; the `RPT` latches are not written. -/
def Heart.initial (h : Heart) : Heart := { h with hbPc := 0, sleepState := .idle }

/-- R325: step 5. Every register with a value in R55 takes it; `DAC_OUT`, `BUF`, `RE`, `IM`, `CNT_TMP` and
`RPT` are not written. -/
def State.setRegisters (s : State) : State :=
  { s with
    status := 0
    lastCause := 0
    synth := ⟨s.synth.at0.initial s.cfg.phaseIncInit.at0, s.synth.at1.initial s.cfg.phaseIncInit.at1⟩
    cap := ⟨.buf0, .buf1, 0, false, false⟩
    cons := { s.cons with maxMag := 0, maxIdx := 0, ctPc := 0 }
    tele := ⟨0, 0, 0⟩
    go := ⟨true, false⟩
    heart := ⟨s.heart.at0.initial, s.heart.at1.initial⟩
    coreOwner := ⟨.none, .none⟩ }

/-- R327: step 6, the first epoch is armed and scheduling starts. -/
def State.start (s : State) : State :=
  { s with runState := .running, cap := { s.cap with armed := true } }

/-- R324: step 4 fails: one of its divisors is 0. -/
def zeroRamp (g : Cfg) : Bool := (fromInt g.attackTime).toInt == 0 || (fromInt g.decayTime).toInt == 0

/-- R322: steps 2 to 6, on the block that has sampled `CFG`. A failure in step 2 or step 4 ends the sequence
at once (R328); step 3 is empty, the tables being constants (R323). -/
def State.afterSampling (s : State) : State :=
  if configError s.cfg then s.halt .cfgerr
  else if zeroRamp s.cfg then s.halt .div0
  else s.setIncrements.setRegisters.start

/-- R322: the sequence that runs when `rst` goes to 0, one atomic step. -/
def State.initialise (s : State) (g : Cfg) : State := (s.sampleConfig g).afterSampling

end Sys2Proof.Machine
end

