-- ==== Sys2Proof/Machine/Sequencer.lean ====
section
/-! DEFINITION. The programs of the tasks, the sequencer step, and the service of one event
(`spec/44_capture.md` R198, `spec/47_semaphore_sync.md` R262, R266, `spec/48_control_and_access.md` R273). -/

namespace Sys2Proof.Machine

/-- R262: the fixed program of the heartbeat task of core `c`. -/
def heartbeatProgram (c : CoreId) (p : BitVec 3) : Instr :=
  match p.toNat with
  | 0 => .semWait c
  | 1 => .hbCount c
  | 2 => .hbRdFreq c
  | 3 => .hbRdFft c
  | 4 => .hbEmit c
  | 5 => .hbClear c
  | 6 => .hbSleep c
  | _ => .semSignal c

/-- R198: the fixed program of the consumer task. -/
def consumerProgram (p : BitVec 3) : Instr :=
  match p.toNat with
  | 0 => .capWait
  | 1 => .capRearm
  | 2 => .winLoad
  | 3 => .fftRun
  | 4 => .peakScan
  | 5 => .pubFreq
  | 6 => .pubCntLd
  | _ => .pubCntSt

/-- The task as an agent (R96). -/
def taskAgent (t : Task) : Agent :=
  match t with
  | .hb c => .hb c
  | .ct => .ct

/-- The core a task runs on (R266, R297). -/
def taskCore (t : Task) : CoreId :=
  match t with
  | .hb c => c
  | .ct => .c0

/-- The task as a holder of its core (R47). -/
def taskOwner (t : Task) : Owner :=
  match t with
  | .hb _ => .hb
  | .ct => .ct

/-- The operation at a task's sequencer position. -/
def State.nextOperation (s : State) (t : Task) : Instr :=
  match t with
  | .hb c => heartbeatProgram c (s.heart.get c).hbPc
  | .ct => consumerProgram s.cons.ctPc

/-- R273: the sequencer register advances by one, 7 wrapping to 0. -/
def State.advance (s : State) (t : Task) : State :=
  match t with
  | .hb c => s.setHeart c { s.heart.get c with hbPc := (s.heart.get c).hbPc + 1 }
  | .ct => { s with cons := { s.cons with ctPc := s.cons.ctPc + 1 } }

/-- R266, R273: when a task may issue its next operation. -/
def State.enabled (s : State) (t : Task) : Bool :=
  s.runState == .running
    && (s.coreOwner.get (taskCore t) == .none || s.coreOwner.get (taskCore t) == taskOwner t)

/-- R273: after the operation, the sequencer advances unless the answer was NOTREADY. -/
def advanceUnlessNotReady (t : Task) (o : Out) : Out :=
  match o with
  | .next s =>
    match s.reply with
    | some ⟨_, .notReady⟩ => .next s
    | _ => .next (s.advance t)
  | .fault f => .fault f
  | .refused r => .refused r

/-- The request being served is the requester's, with `con_ready` at this level; nothing is answered
yet. -/
def State.open (s : State) (a : Agent) (conReady : Bool) : State :=
  { s with agent := a, conReady := conReady, reply := none }

/-- R273 `step(T)`. A task that is not enabled makes no step (log 13). -/
def State.taskStep (s : State) (t : Task) (conReady : Bool) : Out :=
  if s.enabled t then advanceUnlessNotReady t (exec (s.nextOperation t) (s.open (taskAgent t) conReady))
  else .next { s with reply := none }

/-- R290: one request. While the block is not RUNNING nothing is looked at (check 1); a word that selects
no row is illegal (check 2); the remaining checks are the operation's. -/
def State.serve (s : State) (a : Agent) (r : Request) (conReady : Bool) : Out :=
  match decode r with
  | .ok i => exec i (s.open a conReady)
  | .error _ => (s.open a conReady).illegal

/-- R273, R320: what an event does. `rst` going to 0 where it was not 1 does nothing (log 10). -/
def State.handle (s : State) (e : Event) : Out :=
  match e with
  | .request a r conReady => s.serve a r conReady
  | .task t conReady => s.taskStep t conReady
  | .rstHigh => .next s.holdReset
  | .rstLow g =>
    match s.runState with
    | .init => .next ({ s with reply := none }.initialise g)
    | .running => .next { s with reply := none }
    | .halted => .next { s with reply := none }

/-- The next event and the state that is left when it is taken: the head of the inbox, or, where the inbox
is empty, an event nothing constrains (U2, U3, log 2). -/
def State.takeEvent (s : State) : Event × State :=
  match s.inbox with
  | e :: rest => (e, { s with inbox := rest })
  | [] => (Config.arrival s.arrivals, { s with arrivals := s.arrivals + 1 })

/-- One step of the block on an event taken: from outside the inbox only events that can occur (R96). -/
def State.stepOn (s : State) (inboxEmpty : Bool) (e : Event) : Out :=
  if inboxEmpty && !e.occurs then .next { s with reply := none } else s.handle e

/-- The agent whose request a command word is; `HOST` for a word that selects no row. -/
def requester (r : Request) : Agent :=
  match decode r with
  | .ok i => i.issuer
  | .error _ => .host

end Sys2Proof.Machine
end

