-- ==== Sys2Proof/Machine/Step.lean ====
section
/-! DEFINITION. One step of the whole block (`spec/48_control_and_access.md` R273), and the placing of a
request where the step takes its next event. -/

namespace Sys2Proof.Machine

/-- R68, R273: one step takes one event and handles it. -/
def step (s : State) : Host.Outcome State Fault Refusal :=
  s.takeEvent.2.stepOn s.inbox.isEmpty s.takeEvent.1

/-- `s` with the request whose bits are `w` (log 1) next to arrive, from its issuer (R92), with `con_ready`
= 1 (log 3). -/
def State.withFetchWord (s : State) (nbits w : Nat) : State :=
  { s with inbox :=
      .request (requester (Request.ofNat (w % 2 ^ nbits))) (Request.ofNat (w % 2 ^ nbits)) true :: s.inbox }

end Sys2Proof.Machine
end

