-- ==== Sys2Proof/Safety.lean ====
section
/-! DEFINITION. The terms that claims about the block use: when an operation is accepted, the invariants of
the running block, sequences of operations, and runs. -/

namespace Sys2Proof.Machine

/-- The request of `i` passes the checks 1 to 3 of R290: the block is RUNNING and the requester is the
operation's issuer. -/
def State.readyFor (s : State) (i : Instr) : Prop := s.runState = .running ∧ s.agent = i.issuer

/-- The 49 legal command words, as the `cmd` column of R92 lists them. -/
def legalWords : List (BitVec 16) := [
  0x1000, 0x1100, 0x1200, 0x1300, 0x1400, 0x1500, 0x1600,
  0x2000, 0x2100, 0x2200,
  0x3000,
  0x4000, 0x4001, 0x4100, 0x4101, 0x4200, 0x4201,
  0x5000, 0x5001,
  0x6000, 0x6100, 0x6200, 0x6300,
  0x7000, 0x7100, 0x7200,
  0x8000, 0x8100, 0x8200, 0x8300, 0x8400,
  0x9000, 0x9001, 0x9100, 0x9101, 0x9200, 0x9201, 0x9300, 0x9301, 0x9400, 0x9401,
  0x9500, 0x9501, 0x9600, 0x9601, 0x9700, 0x9701, 0x9800, 0x9801]

/-- Which of the ports `opa` and `opb` an operation lists, by the operand columns of R92. -/
def portsListed (i : Instr) : Bool × Bool :=
  match i with
  | .fxFromInt _ => (true, false)
  | .fxFromFloat _ => (true, false)
  | .fxToFloat _ => (true, false)
  | .fxToInt _ => (true, false)
  | .fxMul _ _ => (true, true)
  | .fxDiv _ _ => (true, true)
  | .fxAbs _ => (true, false)
  | .sinDds _ => (true, false)
  | .sinFft _ => (true, false)
  | .cosFft _ => (true, false)
  | .hannRd _ => (true, false)
  | .ddsTick _ => (false, false)
  | .ddsSample _ => (false, false)
  | .dacPush _ => (false, false)
  | .envStep _ => (false, false)
  | .acqPush _ => (true, false)
  | .capWait => (false, false)
  | .capRearm => (false, false)
  | .winLoad => (false, false)
  | .fftBitrev => (false, false)
  | .fftPass _ => (true, false)
  | .fftRun => (false, false)
  | .mag _ _ => (true, true)
  | .peakScan => (false, false)
  | .pubFreq => (false, false)
  | .pubCntLd => (false, false)
  | .pubCntSt => (false, false)
  | .semWait _ => (false, false)
  | .semSignal _ => (false, false)
  | .hbCount _ => (false, false)
  | .hbRdFreq _ => (false, false)
  | .hbRdFft _ => (false, false)
  | .hbEmit _ => (false, false)
  | .hbClear _ => (false, false)
  | .hbSleep _ => (false, false)
  | .sleepExpire _ => (false, false)

/-- The two checks that `spec/42_lut_data.md` gives for a table of `n` entries: the sum of the entries and the
sum of index times entry, modulo 2^32. -/
def tableChecks (n : Nat) (entry : Nat → Word) : Int × Int :=
  let sum (f : Nat → Int) : Int := (List.range n).foldl (fun acc i => acc + f i) 0
  (sum (fun i => (entry i).toInt) % 2 ^ 32, sum (fun i => i * (entry i).toInt) % 2 ^ 32)

/-- R115 in the words of DOC0: `(i64(a) * i64(b)) >> 15`, then the low 32 bits. -/
def product64 (a b : Word) : Word := ((a.signExtend 64 * b.signExtend 64).sshiftRight 15).setWidth 32

/-- R116 in the words of DOC0: `(i64(a) << 15) / i64(b)`, rounded toward zero, then the low 32 bits. -/
def quotient64 (a b : Word) : Word := ((a.signExtend 64 <<< 15).sdiv (b.signExtend 64)).setWidth 32

/-- `z` is the real number `y` rounded toward zero (R13 `trunc`). -/
def IsTrunc (z : Int) (y : ℝ) : Prop := 0 ≤ (z : ℝ) * y ∧ |(z : ℝ)| ≤ |y| ∧ |y| < |(z : ℝ)| + 1

/-- R120: the value of a binary32 that is no NaN and no infinity. -/
def f32Value (x : Word) : ℚ :=
  (if f32Sign x then -1 else 1)
    * (if f32Exponent x = 0 then (f32Fraction x : ℚ) * 2 ^ (-149 : Int)
       else (2 ^ 23 + f32Fraction x : ℚ) * 2 ^ ((f32Exponent x : Int) - 150))

/-- R113, R235: `r` is the binary32 nearest to `v`, a tie going to the even significand; it is neither a NaN
nor an infinity. -/
def NearestEven (v : ℚ) (r : Word) : Prop :=
  f32Exponent r ≠ 255 ∧
    ∀ x : Word, f32Exponent x ≠ 255 → |f32Value r - v| ≤ |f32Value x - v| ∧
      (|f32Value r - v| = |f32Value x - v| → f32Value x ≠ f32Value r → f32Fraction r % 2 = 0)

/-- R326: the conditions (a) to (g) under which a configuration is rejected, in the rule's own terms. -/
def CfgRejected (g : Cfg) : Prop :=
  ((¬ ∃ k, g.n = 2 ^ k) ∨ g.n < 4 ∨ 65536 < g.n)
    ∨ (g.fsAcq = 0 ∨ g.tickRate = 0 ∨ g.handshakeIntervalUs = 0)
    ∨ (2 ^ 32 ≤ g.fsAcq ∨ 2 ^ 32 ≤ g.tickRate)
    ∨ 2 ^ 32 ≤ g.attackTime.toNat + g.sustainTime.toNat + g.decayTime.toNat
    ∨ (g.dacDataBits < 1 ∨ 16 < g.dacDataBits
        ∨ ∃ c k, k < g.dacDataBits ∧ (g.dacTag.get c).getLsbD k = true)
    ∨ (g.sampleBits < 1 ∨ 16 < g.sampleBits)
    ∨ 2 ^ 16 ≤ g.peakMinBin

/-- Several operations one after the other, stopping at the first that stops: the meaning of a composite
(R99). -/
def execAll : List Instr → State → Out
  | [], s => .next s
  | i :: rest, s =>
    match exec i s with
    | .next t => execAll rest t
    | .fault f => .fault f
    | .refused r => .refused r

/-- The first `k` elements of a space have been written. -/
abbrev Memory.filled (m : Memory) (sp : Space) (k : Nat) : Prop := ∀ i < k, (m.read sp i).isSome = true

/-- R268: how many of the four tokens exist: `GO[0]` = 1, `GO[1]` = 1, `HB_PC[0]` in 1 .. 7, `HB_PC[1]` in
1 .. 7. -/
def State.tokens (s : State) : Nat :=
  (if s.go.at0 then 1 else 0) + (if s.go.at1 then 1 else 0)
    + (if s.heart.at0.hbPc = 0 then 0 else 1) + (if s.heart.at1.hbPc = 0 then 0 else 1)

/-- R96: only events that occur in the running block are still to come. -/
abbrev State.inboxOccurs (s : State) : Prop := ∀ e ∈ s.inbox, e.occurs = true

/-- R24, R25: `LAST_CAUSE` is the code of an error whose sticky bit is set, or 0. -/
abbrev State.causeRecorded (s : State) : Prop :=
  s.lastCause.toNat ≤ 4 ∧ (s.lastCause ≠ 0 → s.status.getLsbD (s.lastCause.toNat - 1) = true)

/-- What holds while the block is RUNNING. -/
structure State.RunInv (s : State) : Prop where
  /-- R326: only a configuration that passes the check runs. -/
  config : configError s.cfg = false
  /-- R26, R324: no operation writes the increments. -/
  increments : s.attackInc = div s.cfg.maxAmplitude (fromInt s.cfg.attackTime)
    ∧ s.decayInc = div s.cfg.maxAmplitude (fromInt s.cfg.decayTime)
  /-- R31: no operation writes `PHASE_INC`. -/
  phaseIncrement : s.synth.at0.phaseInc = s.cfg.phaseIncInit.at0
    ∧ s.synth.at1.phaseInc = s.cfg.phaseIncInit.at1
  /-- R37: never both 1, and acquisition is armed or an epoch waits. -/
  capture : s.cap.armed = !s.cap.epochDone
  /-- R191: the write index is in range whenever a sample is stored. -/
  pointer : s.cap.armed = true → s.cap.wrPtr.toNat < s.cfg.n
  /-- R36: the samples gathered since the last restart are there. -/
  gathered : s.mem.filled (.buf s.cap.fillSel) s.cap.wrPtr.toNat
  /-- R37: a complete epoch has exactly `N` samples. -/
  complete : s.cap.epochDone = true → s.cap.wrPtr.toNat = s.cfg.n
  /-- R194: `CAP_REARM` follows a `CAP_WAIT` that answered OK. -/
  waited : s.cons.ctPc = 1 → s.cap.epochDone = true
  /-- R194: the consumer owns a complete epoch when it is about to window it. -/
  handed : s.cons.ctPc = 2 → s.mem.filled (.buf s.cap.consSel) s.cfg.n
  /-- R197: from `WIN_LOAD` on, `RE` and `IM` are whole. -/
  loaded : 3 ≤ s.cons.ctPc.toNat → s.mem.filled .re s.cfg.n ∧ s.mem.filled .im s.cfg.n
  /-- R39: `MAX_IDX` is a bin index. -/
  peak : s.cons.maxIdx.toNat < s.cfg.n
  /-- R34: the elements of `BUF` have `SAMPLE_BITS` bits. -/
  samples : ∀ p ∈ s.mem.buf0 ++ s.mem.buf1, p.2.toNat < 2 ^ s.cfg.sampleBits

/-- The invariant of the block. -/
structure State.Inv (s : State) : Prop where
  occurs : s.inboxOccurs
  /-- R268. -/
  token : s.tokens = 1
  /-- Every writable space is in canonical form, inside its `N` elements (R50, R62). -/
  canonical : s.mem.wf s.cfg.n
  /-- R24, R25. -/
  cause : s.causeRecorded
  /-- R35. -/
  buffers : s.cap.fillSel ≠ s.cap.consSel
  /-- R36. -/
  pointer : s.cap.wrPtr.toNat ≤ s.cfg.n
  /-- R47: `CT` is a task of core 0 alone. -/
  owner1 : s.coreOwner.at1 ≠ .ct
  /-- R198, R266: the consumer keeps core 0 while it processes an epoch. -/
  owner0 : 2 ≤ s.cons.ctPc.toNat → s.coreOwner.at0 = .ct
  /-- R32: `DAC_OUT` has `DAC_DATA_BITS` bits. -/
  dac : s.synth.at0.dacOut.toNat < 2 ^ s.cfg.dacDataBits ∧ s.synth.at1.dacOut.toNat < 2 ^ s.cfg.dacDataBits
  running : s.runState = .running → s.RunInv
  /-- R320: in INIT every register holds its `rst` = 1 value; only an answer may show. -/
  initial : s.runState = .init → s = { s.holdReset with reply := s.reply }
  /-- R328: in HALTED every register but the record of the error and the sampled `CFG` holds its `rst` = 1
  value. -/
  halted : s.runState = .halted → s =
    { s.holdReset with
      runState := .halted
      status := s.status
      lastCause := s.lastCause
      cfg := s.cfg
      reply := s.reply }

/-- A run of the block. -/
def IsRun (run : Nat → State) : Prop := ∀ k, step (run k) = .next (run (k + 1))

/-- R267: the progress requirement on the scheduler. In a run, a task that is again and again able to issue
is again and again given a turn it can use. The schedule comes from outside the model, so this is a
premise a claim may add about a run, never a fact of every run (log 15). -/
def FairTo (t : Task) (run : Nat → State) : Prop :=
  ∀ k, (∀ j ≥ k, ∃ l ≥ j, (run l).enabled t = true) →
    ∃ l ≥ k, (run l).enabled t = true ∧ ∃ conReady, (run l).takeEvent.1 = .task t conReady

end Sys2Proof.Machine
end

