-- ==== Sys2Proof/Certificates/Slice0/Obligations.lean ====
section
/-! DEFINITION. The statements about the block that are to be proved. -/

section

open Sys2Proof Sys2Proof.Machine

/-! Encoding -/

/-- R91, R92, R93: decoding the request that encodes an operation gives the operation back, with every
operand and both core numbers. -/
def Obligations.DecodeEncodeAgree : Prop := ∀ i : Instr, decode (encode i) = .ok i

/-- R92, R93, R94, R100: the words that name an operation are the 49 words of R92 and no others. A request
names the operation `i` if and only if it carries the word of `i` and, on the ports that the row of `i` lists,
the operands of `i`; so a port that the row does not list is ignored, whatever it carries. -/
def Obligations.LegalWordsAreTheListed : Prop :=
  ∀ r : Request, ((∃ i, decode r = .ok i) ↔ r.cmd ∈ legalWords)
    ∧ ∀ i, decode r = .ok i ↔
        r.cmd = (encode i).cmd
          ∧ ((portsListed i).1 = true → r.opa = (encode i).opa)
          ∧ ((portsListed i).2 = true → r.opb = (encode i).opb)

/-- Some command words of R92, one of each unit, and what they name. -/
def Obligations.DecodedWords : Prop :=
  decode ⟨0x1500, 7, 9⟩ = .ok (.fxDiv 7 9) ∧ decode ⟨0x2200, 768, 0⟩ = .ok (.cosFft 768)
    ∧ decode ⟨0x3000, 4, 0⟩ = .ok (.hannRd 4) ∧ decode ⟨0x4201, 0, 0⟩ = .ok (.dacPush .c1)
    ∧ decode ⟨0x5000, 0, 0⟩ = .ok (.envStep .c0) ∧ decode ⟨0x6000, 0x1FF, 0⟩ = .ok (.acqPush 0x1FF)
    ∧ decode ⟨0x7100, 8, 0⟩ = .ok (.fftPass 8) ∧ decode ⟨0x8300, 0, 0⟩ = .ok .pubCntLd
    ∧ decode ⟨0x9801, 0, 0⟩ = .ok (.sleepExpire .c1)

/-! The step -/

/-- R90, R273: where the next event is a request that decodes to `i`, the step is `i`'s meaning on the state
that has taken the event, with the requester and `con_ready` of the request and nothing answered yet. -/
def Obligations.StepServesRequest : Prop :=
  ∀ (s : State) (a : Agent) (r : Request) (conReady : Bool) (rest : List Event) (i : Instr),
    s.inbox = .request a r conReady :: rest → decode r = .ok i →
      step s = exec i { s with inbox := rest, agent := a, conReady := conReady, reply := none }

/-- R266, R273: where the next event is a turn of a task. The task is enabled exactly when `RUN_STATE` is
RUNNING and the owner of its core is NONE or itself. Enabled, it runs the operation at its sequencer position
as its own agent; on NOTREADY the position stays, on any other answer it moves by one modulo 8 and nothing
else changes beyond what the operation did; a fault of the operation is a fault of the step. Not enabled, it
makes no step (the model's way of writing the absence of a step, log 13). -/
def Obligations.StepRunsTask : Prop :=
  (∀ (s : State) (c : CoreId) (conReady : Bool) (rest : List Event),
    s.inbox = .task (.hb c) conReady :: rest →
      let o := exec (heartbeatProgram c (s.heart.get c).hbPc)
        { s with inbox := rest, agent := .hb c, conReady := conReady, reply := none }
      (s.runState = .running → s.coreOwner.get c = .none ∨ s.coreOwner.get c = .hb →
        (∀ v, o = .next v →
          (v.reply.map Reply.st = some .notReady → step s = .next v)
          ∧ (v.reply.map Reply.st ≠ some .notReady →
              ∃ p : BitVec 3, p.toNat = ((s.heart.get c).hbPc.toNat + 1) % 8
                ∧ step s = .next { v with heart := v.heart.set c { v.heart.get c with hbPc := p } }))
        ∧ ∀ f, o = .fault f → step s = .fault f)
      ∧ (s.runState ≠ .running ∨ s.coreOwner.get c = .ct →
          step s = .next { s with inbox := rest, reply := none }))
  ∧ ∀ (s : State) (conReady : Bool) (rest : List Event),
    s.inbox = .task .ct conReady :: rest →
      let o := exec (consumerProgram s.cons.ctPc)
        { s with inbox := rest, agent := .ct, conReady := conReady, reply := none }
      (s.runState = .running → s.coreOwner.at0 = .none ∨ s.coreOwner.at0 = .ct →
        (∀ v, o = .next v →
          (v.reply.map Reply.st = some .notReady → step s = .next v)
          ∧ (v.reply.map Reply.st ≠ some .notReady →
              ∃ p : BitVec 3, p.toNat = (s.cons.ctPc.toNat + 1) % 8
                ∧ step s = .next { v with cons := { v.cons with ctPc := p } }))
        ∧ ∀ f, o = .fault f → step s = .fault f)
      ∧ (s.runState ≠ .running ∨ s.coreOwner.at0 = .hb →
          step s = .next { s with inbox := rest, reply := none })

/-- R198, R262: the programs of the three tasks, position by position, as command words. -/
def Obligations.TaskPrograms : Prop :=
  (∀ c : CoreId, (List.range 8).map (fun p => encodeCmd (heartbeatProgram c (BitVec.ofNat 3 p)))
      = [0x9000, 0x9200, 0x9300, 0x9400, 0x9500, 0x9600, 0x9700, 0x9100].map (perCoreCmd · c))
    ∧ (List.range 8).map (fun p => encodeCmd (consumerProgram (BitVec.ofNat 3 p)))
      = [0x6100, 0x6200, 0x6300, 0x7200, 0x8100, 0x8200, 0x8300, 0x8400]

/-! Gating and illegal requests -/

/-- R104: while the block is not RUNNING a step that takes a request, legal or not, from any agent, changes no
register and answers 0 and NOTRUNNING, and so does every operation; a turn given to an internal sequencer
issues nothing. -/
def Obligations.StoppedBlockAnswersNotRunning : Prop :=
  ∀ s : State, s.runState ≠ .running →
    (∀ (a : Agent) (r : Request) (conReady : Bool) (rest : List Event),
      s.inbox = .request a r conReady :: rest →
        step s = .next { s with
          inbox := rest
          agent := a
          conReady := conReady
          reply := some ⟨0, .notRunning⟩ })
    ∧ (∀ i : Instr, exec i s = .next { s with reply := some ⟨0, .notRunning⟩ })
    ∧ ∀ (t : Task) (conReady : Bool) (rest : List Event), s.inbox = .task t conReady :: rest →
        step s = .next { s with inbox := rest, reply := none }

/-- R288 with R100: in the RUNNING block a step that takes a request whose word is not one of the 49, or whose
agent is not the issuer, or an `FFT_PASS` whose `L` is not a power of two in 1 .. N/2, changes
`STATUS.ILLCMD` and `LAST_CAUSE` only and answers 0 and ILLCMD. The block runs on. -/
def Obligations.IllegalRequestIsRecordedOnly : Prop :=
  ∀ (s : State) (a : Agent) (r : Request) (conReady : Bool) (rest : List Event), s.runState = .running →
    s.inbox = .request a r conReady :: rest →
    (r.cmd ∉ legalWords
      ∨ (∃ i, decode r = .ok i ∧ a ≠ i.issuer)
      ∨ (∃ l : Word, decode r = .ok (.fftPass l) ∧ ¬ ∃ k, l.toNat = 2 ^ k ∧ l.toNat ≤ s.cfg.n / 2)) →
    step s
      = .next { s with
          inbox := rest
          agent := a
          conReady := conReady
          status := s.status ||| 0b1000
          lastCause := 4
          reply := some ⟨0, .illcmd⟩ }

/-- R289, with R95 and R283: every operation that leads to a next state answers; the result is 0 unless the
status is OK; OK, NOTREADY and NOTRUNNING leave `STATUS` and `LAST_CAUSE` alone; each error sets its own
sticky bit, keeps the others and is recorded in `LAST_CAUSE`; no request answers CFGERR. -/
def Obligations.AnswersAndErrors : Prop :=
  ∀ (i : Instr) (s t : State), exec i s = .next t →
    ∃ res st, t.reply = some ⟨res, st⟩ ∧ (st ≠ .ok → res = 0)
      ∧ (st = .ok ∨ st = .notReady ∨ st = .notRunning → t.status = s.status ∧ t.lastCause = s.lastCause)
      ∧ (st = .div0 → t.status = s.status ||| 0b0001 ∧ t.lastCause = 1)
      ∧ (st = .periph → t.status = s.status ||| 0b0100 ∧ t.lastCause = 3)
      ∧ (st = .illcmd → t.status = s.status ||| 0b1000 ∧ t.lastCause = 4)
      ∧ st ≠ .cfgerr

/-- R66 (what may be written), R23, R26, R31, R35, R42, R43: an operation changes a piece of state only where
its issuer owns it. -/
def Obligations.OwnershipFrame : Prop :=
  ∀ (i : Instr) (s t : State), exec i s = .next t →
    (t.runState = s.runState ∧ t.cfg = s.cfg ∧ t.attackInc = s.attackInc ∧ t.decayInc = s.decayInc
      ∧ t.agent = s.agent ∧ t.conReady = s.conReady ∧ t.inbox = s.inbox ∧ t.arrivals = s.arrivals)
    ∧ (∀ c, (t.synth.get c).phaseInc = (s.synth.get c).phaseInc
      ∧ (i.issuer ≠ .timer c → t.synth.get c = s.synth.get c)
      ∧ (t.heart.get c).hbPc = (s.heart.get c).hbPc
      ∧ (i.issuer ≠ .hb c → (t.heart.get c).rptCnt = (s.heart.get c).rptCnt
          ∧ (t.heart.get c).rptFreq = (s.heart.get c).rptFreq
          ∧ (t.heart.get c).rptFft = (s.heart.get c).rptFft)
      ∧ (i.issuer ≠ .hb c → i.issuer ≠ .sleepTimer c →
          (t.heart.get c).sleepState = (s.heart.get c).sleepState)
      ∧ (t.go.get c = s.go.get c ∨ (i.issuer = .hb c ∧ t.go.get c = false)
          ∨ (i.issuer = .hb c.other ∧ t.go.get c = true))
      ∧ (i.issuer ≠ .hb c → (c = .c0 → i.issuer ≠ .ct) → t.coreOwner.get c = s.coreOwner.get c))
    ∧ (∀ b k, i.issuer ≠ .acq ∨ b ≠ s.cap.fillSel → t.mem.read (.buf b) k = s.mem.read (.buf b) k)
    ∧ (i.issuer ≠ .ct → t.cap.fillSel = s.cap.fillSel ∧ t.cap.consSel = s.cap.consSel
      ∧ (∀ k, t.mem.read .re k = s.mem.read .re k ∧ t.mem.read .im k = s.mem.read .im k)
      ∧ t.cons = s.cons ∧ t.tele.maxFrequency = s.tele.maxFrequency)
    ∧ (i.issuer ≠ .ct → i.issuer ≠ .acq → t.cap = s.cap)
    ∧ t.cons.ctPc = s.cons.ctPc
    ∧ ((∀ c, i.issuer ≠ .hb c) → t.tele.pingPong = s.tele.pingPong
      ∧ (i.issuer ≠ .ct → t.tele.fftCount = s.tele.fftCount))

/-! Unit 1 -/

/-- R111, R114, R117: `FX_FROM_INT` is a shift left by 15 that loses the high bits, `FX_TO_INT` an
arithmetic shift right by 15, and `FX_ABS` a negation of a negative operand, so that the most negative value
stays itself. Nothing but the answer changes. -/
def Obligations.ConversionsAndAbs : Prop :=
  ∀ (opa : Word) (s : State),
    (s.readyFor (.fxFromInt opa) →
      exec (.fxFromInt opa) s = .next { s with reply := some ⟨opa <<< 15, .ok⟩ })
    ∧ (s.readyFor (.fxToInt opa) →
      exec (.fxToInt opa) s = .next { s with reply := some ⟨opa.sshiftRight 15, .ok⟩ })
    ∧ (s.readyFor (.fxAbs opa) →
      exec (.fxAbs opa) s = .next { s with reply := some ⟨if opa.msb then -opa else opa, .ok⟩ })

/-- R115, R110: `FX_MUL` is the 64-bit product shifted right by 15 and cut to 32 bits; it wraps and never
saturates; nothing but the answer changes. -/
def Obligations.MulWraps : Prop :=
  ∀ (a b : Word) (s : State), s.readyFor (.fxMul a b) →
    exec (.fxMul a b) s = .next { s with reply := some ⟨product64 a b, .ok⟩ }
      ∧ (2 ^ 32 : Int) ∣ (product64 a b).toInt - (a.toInt * b.toInt) / 2 ^ 15

/-- R116, R284: `FX_DIV` by 0 raises DIV0 and does nothing else; by any other divisor it is the 64-bit
quotient rounded toward zero and cut to 32 bits. -/
def Obligations.DivTruncates : Prop :=
  ∀ (a b : Word) (s : State), s.readyFor (.fxDiv a b) →
    (b = 0 → exec (.fxDiv a b) s
      = .next { s with status := s.status ||| 0b0001, lastCause := 1, reply := some ⟨0, .div0⟩ })
    ∧ (b ≠ 0 → exec (.fxDiv a b) s = .next { s with reply := some ⟨quotient64 a b, .ok⟩ })

/-- R112: `FX_FROM_FLOAT` always answers OK and changes no register of the block; where the operand is finite
and its value times 2^15, rounded toward zero, fits 32 bits, that is the result. (`draws` is the model's own
counter of free values, log 7.) -/
def Obligations.FromFloatTruncates : Prop :=
  ∀ (opa : Word) (s : State), s.readyFor (.fxFromFloat opa) →
    (∃ r, exec (.fxFromFloat opa) s = .next { s with draws := s.draws + 1, reply := some ⟨r, .ok⟩ })
    ∧ ∀ z : Int, f32Exponent opa ≠ 255 → IsTrunc z ((f32Value opa : ℝ) * 2 ^ 15) →
        -2 ^ 31 ≤ z → z ≤ 2 ^ 31 - 1 →
        exec (.fxFromFloat opa) s
          = .next { s with draws := s.draws + 1, reply := some ⟨BitVec.ofInt 32 z, .ok⟩ }

/-- R113: `FX_TO_FLOAT` answers the binary32 nearest to the value of its operand, ties to even; zero gives
+0.0; nothing but the answer changes. -/
def Obligations.ToFloatIsNearestEven : Prop :=
  ∀ (opa : Word) (s : State), s.readyFor (.fxToFloat opa) →
    ∃ r, exec (.fxToFloat opa) s = .next { s with reply := some ⟨r, .ok⟩ }
      ∧ NearestEven ((opa.toInt : ℚ) / 2 ^ 15) r ∧ (opa = 0 → r = 0)

/-! Units 2 and 3 -/

/-- R131, R136 to R139: an index is reduced to the table's length, and `COS_FFT` reads the sine a quarter
cycle later, modulo `N`. Nothing but the answer changes. -/
def Obligations.TableReads : Prop :=
  ∀ (opa : Word) (s : State), isPow2 s.cfg.n = true →
    (s.readyFor (.sinDds opa) →
      exec (.sinDds opa) s = .next { s with reply := some ⟨sine256 (opa.toNat % 256), .ok⟩ })
    ∧ (s.readyFor (.sinFft opa) →
      exec (.sinFft opa) s = .next { s with reply := some ⟨sineN s.cfg.n (opa.toNat % s.cfg.n), .ok⟩ })
    ∧ (s.readyFor (.cosFft opa) →
      exec (.cosFft opa) s
        = .next { s with reply := some ⟨sineN s.cfg.n ((opa.toNat + s.cfg.n / 4) % s.cfg.n), .ok⟩ })
    ∧ (s.readyFor (.hannRd opa) →
      exec (.hannRd opa) s = .next { s with reply := some ⟨hann s.cfg.n (opa.toNat % s.cfg.n), .ok⟩ })

/-- R140, R134: the symmetries of the tables for every length up to 1024, and the 256-entry table as a
sub-sample of the 1024-entry one. -/
def Obligations.TableSymmetries : Prop :=
  (∀ n i : Nat, isPow2 n = true → 4 ≤ n → n ≤ 1024 → i < n →
    (0 < i → sineN n (n - i) = -sineN n i ∧ hann n (n - i) = hann n i)
    ∧ (i ≤ n / 2 → sineN n (n / 2 - i) = sineN n i)
    ∧ (i < n / 2 → sineN n (i + n / 2) = -sineN n i))
  ∧ ∀ i < 256, sine256 i = sineN 1024 (4 * i)

/-- R132, R134, R135: for `N` = 4 and `N` = 8 each table entry is the exact real value times 2^15, rounded
toward zero. -/
def Obligations.TablesAreTruncatedReals : Prop :=
  ∀ n i : Nat, n = 4 ∨ n = 8 → i < n →
    IsTrunc (sineN n i).toInt (2 ^ 15 * Real.sin (2 * Real.pi * i / n))
    ∧ IsTrunc (hann n i).toInt (2 ^ 15 * (1 / 2 * (1 - Real.cos (2 * Real.pi * i / n))))

/-! Units 4 and 5 -/

/-- R165: one `DDS_SAMPLE`: the phase advances modulo 2^32, the new phase's top 8 bits index the table, the two
products are taken in the order written, and the sample keeps the low `DAC_DATA_BITS` bits. Nothing else
changes. -/
def Obligations.DdsSampleResult : Prop :=
  ∀ (c : CoreId) (s : State), s.readyFor (.ddsSample c) →
    let y := s.synth.get c
    let phase := y.phaseAcc + y.phaseInc
    let p1 := product64 y.envAmp (sine256 (phase >>> 24).toNat)
    let v := (product64 p1 s.cfg.outputScale).sshiftRight 15 + s.cfg.dcOffset
    exec (.ddsSample c) s
      = .next { s with
          synth := s.synth.set c
            { y with phaseAcc := phase, dacOut := BitVec.ofNat 16 (v.toNat % 2 ^ s.cfg.dacDataBits) }
          reply := some ⟨0, .ok⟩ }

/-- R170: one `ENV_STEP`. The ramp test sees the old `ENV_ELAPSED`, the two equality tests the new one;
attack goes before decay; entering SILENT clears the amplitude. The oscillator's registers and everything
outside the core's envelope stay. -/
def Obligations.EnvStepResult : Prop :=
  ∀ (c : CoreId) (s : State), s.readyFor (.envStep c) →
    let y := s.synth.get c
    ∃ z : Synth,
      exec (.envStep c) s = .next { s with synth := s.synth.set c z, reply := some ⟨0, .ok⟩ }
      ∧ z.phaseAcc = y.phaseAcc ∧ z.phaseInc = y.phaseInc ∧ z.dacOut = y.dacOut
      ∧ (y.envState = .active → (y.envElapsed + 1).toNat = s.cfg.beepDuration →
          z.envState = .silent ∧ z.envElapsed = 0 ∧ z.envAmp = 0)
      ∧ (y.envState = .active → (y.envElapsed + 1).toNat ≠ s.cfg.beepDuration →
          z.envState = .active ∧ z.envElapsed = y.envElapsed + 1
          ∧ (y.envElapsed.toNat < s.cfg.attackTime.toNat → z.envAmp = y.envAmp + s.attackInc)
          ∧ (s.cfg.attackTime.toNat ≤ y.envElapsed.toNat →
              s.cfg.attackTime.toNat + s.cfg.sustainTime.toNat < y.envElapsed.toNat →
              z.envAmp = y.envAmp - s.decayInc)
          ∧ (s.cfg.attackTime.toNat ≤ y.envElapsed.toNat →
              y.envElapsed.toNat ≤ s.cfg.attackTime.toNat + s.cfg.sustainTime.toNat →
              z.envAmp = y.envAmp))
      ∧ (y.envState = .silent → y.envElapsed + 1 = s.cfg.beepRepeatInterval →
          z.envState = .active ∧ z.envElapsed = 0 ∧ z.envAmp = 0)
      ∧ (y.envState = .silent → y.envElapsed + 1 ≠ s.cfg.beepRepeatInterval →
          z.envState = .silent ∧ z.envElapsed = y.envElapsed + 1 ∧ z.envAmp = 0)

/-- R175, R177: `DAC_PUSH` emits exactly one word and answers it; where the tag's low bits are clear and the
sample fits, the word is their sum: the tag above, the sample below. Nothing else changes. -/
def Obligations.DacPushWord : Prop :=
  ∀ (c : CoreId) (s : State), s.readyFor (.dacPush c) →
    ∃ w : BitVec 16,
      exec (.dacPush c) s
        = .next { s with emitted := .dac w :: s.emitted, reply := some ⟨w.setWidth 32, .ok⟩ }
      ∧ w = s.cfg.dacTag.get c ||| (s.synth.get c).dacOut
      ∧ ((s.cfg.dacTag.get c).toNat % 2 ^ s.cfg.dacDataBits = 0 →
          (s.synth.get c).dacOut.toNat < 2 ^ s.cfg.dacDataBits →
          w.toNat = (s.cfg.dacTag.get c).toNat + (s.synth.get c).dacOut.toNat)

/-- R99, R178, R161: `DDS_TICK` is the sequence of its three parts, completes in every RUNNING state, and
emits exactly one DAC word, which is its result. Only the core's own registers change. -/
def Obligations.TickIsItsParts : Prop :=
  ∀ (c : CoreId) (s : State), s.readyFor (.ddsTick c) →
    exec (.ddsTick c) s = execAll [.ddsSample c, .envStep c, .dacPush c] s
    ∧ ∃ (z : Synth) (w : BitVec 16),
        exec (.ddsTick c) s
          = .next { s with
              synth := s.synth.set c z
              emitted := .dac w :: s.emitted
              reply := some ⟨w.setWidth 32, .ok⟩ }
        ∧ z.phaseAcc = (s.synth.get c).phaseAcc + (s.synth.get c).phaseInc
        ∧ z.phaseInc = (s.synth.get c).phaseInc
        ∧ w = s.cfg.dacTag.get c ||| z.dacOut

/-- R172: from ACTIVE with `ENV_ELAPSED` = 0 the envelope is ACTIVE for exactly `BEEP_DURATION` steps, then
SILENT with amplitude 0 for exactly `BEEP_REPEAT_INTERVAL` steps, and then again at ACTIVE with
`ENV_ELAPSED` = 0 and amplitude 0. -/
def Obligations.EnvelopePeriod : Prop :=
  ∀ (c : CoreId) (s : State), s.readyFor (.envStep c) →
    (s.synth.get c).envState = .active → (s.synth.get c).envElapsed = 0 →
    1 ≤ s.cfg.beepDuration → s.cfg.beepDuration < 2 ^ 32 → s.cfg.beepRepeatInterval ≠ 0 →
    ∀ k ≤ s.cfg.beepDuration + s.cfg.beepRepeatInterval.toNat,
      ∃ t, execAll (List.replicate k (.envStep c)) s = .next t
        ∧ (k < s.cfg.beepDuration →
            (t.synth.get c).envState = .active ∧ (t.synth.get c).envElapsed.toNat = k)
        ∧ (s.cfg.beepDuration ≤ k → k < s.cfg.beepDuration + s.cfg.beepRepeatInterval.toNat →
            (t.synth.get c).envState = .silent
            ∧ (t.synth.get c).envElapsed.toNat = k - s.cfg.beepDuration
            ∧ (t.synth.get c).envAmp = 0)
        ∧ (k = s.cfg.beepDuration + s.cfg.beepRepeatInterval.toNat →
            (t.synth.get c).envState = .active ∧ (t.synth.get c).envElapsed = 0
            ∧ (t.synth.get c).envAmp = 0)

/-- R171, R173: the amplitude over one beep. After `k` steps it is the attack increment times the attack
steps made (at most `ATTACK_TIME`) minus the decay increment times the decay steps made; there is one more
sustain step than `SUSTAIN_TIME` and one fewer decay step than `DECAY_TIME`. -/
def Obligations.EnvelopeShape : Prop :=
  ∀ (c : CoreId) (s : State), s.readyFor (.envStep c) →
    (s.synth.get c).envState = .active → (s.synth.get c).envElapsed = 0 → (s.synth.get c).envAmp = 0 →
    s.cfg.beepDuration < 2 ^ 32 →
    ∀ k < s.cfg.beepDuration,
      ∃ t, execAll (List.replicate k (.envStep c)) s = .next t
        ∧ (t.synth.get c).envAmp
          = BitVec.ofNat 32 (min k s.cfg.attackTime.toNat) * s.attackInc
            - BitVec.ofNat 32 (k - (s.cfg.attackTime.toNat + s.cfg.sustainTime.toNat + 1)) * s.decayInc

/-- R178, R179: ticks of the two cores commute: in either order every register ends the same, and only the
order of the two emitted words differs. -/
def Obligations.TicksCommute : Prop :=
  ∀ (s : State) (r0 r1 : Bool), s.runState = .running →
    ∃ (a b a' b' : State) (w0 w1 : BitVec 16),
      s.handle (.request (.timer .c0) (encode (.ddsTick .c0)) r0) = .next a
      ∧ a.handle (.request (.timer .c1) (encode (.ddsTick .c1)) r1) = .next b
      ∧ s.handle (.request (.timer .c1) (encode (.ddsTick .c1)) r1) = .next a'
      ∧ a'.handle (.request (.timer .c0) (encode (.ddsTick .c0)) r0) = .next b'
      ∧ { b with
          agent := b'.agent
          conReady := b'.conReady
          reply := b'.reply
          emitted := b'.emitted } = b'
      ∧ b.emitted = .dac w1 :: .dac w0 :: s.emitted ∧ b'.emitted = .dac w0 :: .dac w1 :: s.emitted

/-- R66, R179, R294: a tick depends on nothing but the configuration, the increments and the registers of its
own core: two states that agree on those give the same word and the same registers. -/
def Obligations.TickReadsOnlyItsOwnCore : Prop :=
  ∀ (c : CoreId) (s t s' t' : State), s.readyFor (.ddsTick c) → s'.readyFor (.ddsTick c) →
    s'.cfg = s.cfg → s'.attackInc = s.attackInc → s'.decayInc = s.decayInc →
    s'.synth.get c = s.synth.get c →
    exec (.ddsTick c) s = .next t → exec (.ddsTick c) s' = .next t' →
      t'.synth.get c = t.synth.get c ∧ t'.reply = t.reply ∧ t'.emitted.head? = t.emitted.head?

/-! Unit 6 -/

/-- R191: `ACQ_PUSH`. While `ARMED` = 0 the sample is dropped. Otherwise element `WR_PTR` of `BUF[FILL_SEL]`
takes the low `SAMPLE_BITS` bits of the operand and no other element of any space changes; `WR_PTR` grows by
one; the N-th sample clears `ARMED` and sets `EPOCH_DONE`. A pointer at `N` or above while `ARMED` = 1, which
no run has, names no element: there the model's evaluation stops (log 12). -/
def Obligations.AcqPushResult : Prop :=
  ∀ (opa : Word) (s : State), s.readyFor (.acqPush opa) →
    (s.cap.armed = false → exec (.acqPush opa) s = .next { s with reply := some ⟨0, .ok⟩ })
    ∧ (s.cap.armed = true → s.cap.wrPtr.toNat < s.cfg.n → s.cfg.n ≤ 65536 →
        ∃ m : Memory,
          (∃ x : Word, x.toNat = opa.toNat % 2 ^ s.cfg.sampleBits
            ∧ ∀ sp k, m.read sp k
                = if sp = .buf s.cap.fillSel ∧ k = s.cap.wrPtr.toNat then some x else s.mem.read sp k)
          ∧ (s.cap.wrPtr.toNat + 1 < s.cfg.n → exec (.acqPush opa) s
              = .next { s with
                  mem := m
                  cap := { s.cap with wrPtr := s.cap.wrPtr + 1 }
                  reply := some ⟨0, .ok⟩ })
          ∧ (s.cap.wrPtr.toNat + 1 = s.cfg.n → exec (.acqPush opa) s
              = .next { s with
                  mem := m
                  cap := { s.cap with wrPtr := s.cap.wrPtr + 1, armed := false, epochDone := true }
                  reply := some ⟨0, .ok⟩ }))
    ∧ (s.cap.armed = true → s.cfg.n ≤ s.cap.wrPtr.toNat →
        exec (.acqPush opa) s = .fault .indexOutOfRange)

/-- R193: `CAP_WAIT` answers OK or NOTREADY by `EPOCH_DONE`, gives core 0 up in both cases, and changes no
capture state. -/
def Obligations.CapWaitResult : Prop :=
  ∀ s : State, s.readyFor .capWait →
    (s.cap.epochDone = true →
      exec .capWait s = .next { s with coreOwner := s.coreOwner.set .c0 .none, reply := some ⟨0, .ok⟩ })
    ∧ (s.cap.epochDone = false →
      exec .capWait s
        = .next { s with coreOwner := s.coreOwner.set .c0 .none, reply := some ⟨0, .notReady⟩ })

/-- R194: `CAP_REARM` exchanges the buffers and starts the next epoch, or answers NOTREADY; the consumer
keeps core 0 in both cases. -/
def Obligations.CapRearmResult : Prop :=
  ∀ s : State, s.readyFor .capRearm →
    (s.cap.epochDone = true →
      exec .capRearm s
        = .next { s with
            cap := ⟨s.cap.consSel, s.cap.fillSel, 0, true, false⟩
            coreOwner := s.coreOwner.set .c0 .ct
            reply := some ⟨0, .ok⟩ })
    ∧ (s.cap.epochDone = false →
      exec .capRearm s
        = .next { s with coreOwner := s.coreOwner.set .c0 .ct, reply := some ⟨0, .notReady⟩ })

/-- R196: `WIN_LOAD` on a complete buffer: `RE[i]` is the sample times 2^15, times the window entry; `IM[i]`
is 0; the buffers and everything else stay. For `N` up to 1024 and samples of at most 16 bits the product is
exact. -/
def Obligations.WinLoadResult : Prop :=
  ∀ s : State, s.readyFor .winLoad → s.mem.filled (.buf s.cap.consSel) s.cfg.n →
    ∃ m : Memory,
      exec .winLoad s
        = .next { s with mem := m, coreOwner := s.coreOwner.set .c0 .ct, reply := some ⟨0, .ok⟩ }
      ∧ (∀ b k, m.read (.buf b) k = s.mem.read (.buf b) k)
      ∧ (∀ k, s.cfg.n ≤ k → m.read .re k = s.mem.read .re k ∧ m.read .im k = s.mem.read .im k)
      ∧ ∀ i < s.cfg.n, ∃ x y : Word,
          s.mem.read (.buf s.cap.consSel) i = some x ∧ m.read .re i = some y ∧ m.read .im i = some 0
          ∧ y = product64 (x <<< 15) (hann s.cfg.n i)
          ∧ (s.cfg.n ≤ 1024 → x.toNat < 2 ^ 16 → y.toInt = x.toNat * (hann s.cfg.n i).toInt)

/-- R73, U8: an operation that needs an element nothing has written stops the evaluation with the model's
fault for that (log 5): `WIN_LOAD` over the consumer's buffer, `PEAK_SCAN` over the first half of `RE` and
`IM`, `FFT_BITREV` over the elements it exchanges, `FFT_PASS` with a legal `L` and `FFT_RUN` over the whole
of them. -/
def Obligations.UnwrittenReadFaults : Prop :=
  ∀ (s : State) (i : Nat), configError s.cfg = false →
    (s.readyFor .winLoad → i < s.cfg.n → s.mem.read (.buf s.cap.consSel) i = none →
      exec .winLoad s = .fault .readUnwritten)
    ∧ (s.readyFor .peakScan → i < s.cfg.n / 2 → s.mem.read .re i = none ∨ s.mem.read .im i = none →
      exec .peakScan s = .fault .readUnwritten)
    ∧ (s.readyFor .fftBitrev → 1 ≤ i → i + 1 < s.cfg.n → bitrev s.cfg.n.log2 i ≠ i →
      s.mem.read .re i = none ∨ s.mem.read .im i = none →
      exec .fftBitrev s = .fault .readUnwritten)
    ∧ (∀ l : Word, s.readyFor (.fftPass l) → legalPassLength s.cfg.n l.toNat = true → i < s.cfg.n →
      s.mem.read .re i = none ∨ s.mem.read .im i = none →
      exec (.fftPass l) s = .fault .readUnwritten)
    ∧ (s.readyFor .fftRun → i < s.cfg.n → s.mem.read .re i = none ∨ s.mem.read .im i = none →
      exec .fftRun s = .fault .readUnwritten)

/-! Unit 7 -/

/-- R211: bit `k` of `bitrev m` is bit `LOG2N - 1 - k` of `m`; it is its own inverse; and the two tables the
rule lists. -/
def Obligations.BitrevReversesBits : Prop :=
  (∀ bits m k : Nat, m < 2 ^ bits → k < bits →
    (bitrev bits m).testBit k = m.testBit (bits - 1 - k) ∧ bitrev bits m < 2 ^ bits
    ∧ bitrev bits (bitrev bits m) = m)
  ∧ (List.range 8).map (bitrev 3) = [0, 4, 2, 6, 1, 5, 3, 7]
  ∧ (List.range 16).map (bitrev 4) = [0, 8, 4, 12, 2, 10, 6, 14, 1, 9, 5, 13, 3, 11, 7, 15]

/-- R212: `FFT_BITREV` on complete arrays puts at every index the element of the bit-reversed index and
changes nothing else. -/
def Obligations.FftBitrevPermutes : Prop :=
  ∀ s : State, s.readyFor .fftBitrev → isPow2 s.cfg.n = true →
    s.mem.filled .re s.cfg.n → s.mem.filled .im s.cfg.n →
    ∃ m : Memory,
      exec .fftBitrev s
        = .next { s with mem := m, coreOwner := s.coreOwner.set .c0 .ct, reply := some ⟨0, .ok⟩ }
      ∧ (∀ b k, m.read (.buf b) k = s.mem.read (.buf b) k)
      ∧ (∀ k, s.cfg.n ≤ k → m.read .re k = s.mem.read .re k ∧ m.read .im k = s.mem.read .im k)
      ∧ ∀ k < s.cfg.n, m.read .re k = s.mem.read .re (bitrev s.cfg.n.log2 k)
          ∧ m.read .im k = s.mem.read .im (bitrev s.cfg.n.log2 k)

/-- R213, R214, R215: `FFT_PASS` on complete arrays. For each pair `(i, i + L)` with bit `log2 L` of `i`
clear, both elements take the butterfly of the OLD values with the twiddle of group `i mod L`; every element
belongs to one pair, and nothing else changes. -/
def Obligations.FftPassButterflies : Prop :=
  ∀ (l : Word) (s : State), s.readyFor (.fftPass l) → isPow2 s.cfg.n = true →
    legalPassLength s.cfg.n l.toNat = true → s.mem.filled .re s.cfg.n → s.mem.filled .im s.cfg.n →
    ∃ m : Memory,
      exec (.fftPass l) s
        = .next { s with mem := m, coreOwner := s.coreOwner.set .c0 .ct, reply := some ⟨0, .ok⟩ }
      ∧ (∀ b k, m.read (.buf b) k = s.mem.read (.buf b) k)
      ∧ (∀ k, s.cfg.n ≤ k → m.read .re k = s.mem.read .re k ∧ m.read .im k = s.mem.read .im k)
      ∧ ∀ i < s.cfg.n, i / l.toNat % 2 = 0 → ∀ ri ii rj ij : Word,
          s.mem.read .re i = some ri → s.mem.read .im i = some ii →
          s.mem.read .re (i + l.toNat) = some rj → s.mem.read .im (i + l.toNat) = some ij →
          let k := i % l.toNat * (s.cfg.n / (2 * l.toNat))
          let wr := (sineN s.cfg.n (k + s.cfg.n / 4)).sshiftRight 1
          let wi := (-sineN s.cfg.n k).sshiftRight 1
          let tr := product64 wr rj - product64 wi ij
          let ti := product64 wr ij + product64 wi rj
          m.read .re (i + l.toNat) = some (ri.sshiftRight 1 - tr)
          ∧ m.read .im (i + l.toNat) = some (ii.sshiftRight 1 - ti)
          ∧ m.read .re i = some (ri.sshiftRight 1 + tr)
          ∧ m.read .im i = some (ii.sshiftRight 1 + ti)

/-- R99, R216, R217: `FFT_RUN` is `FFT_BITREV` followed by `LOG2N` passes with `L` = 1, 2, 4, ..., N/2; on
complete arrays it completes, changes only `RE` and `IM`, and leaves them complete. -/
def Obligations.FftRunIsItsPasses : Prop :=
  ∀ s : State, s.readyFor .fftRun → isPow2 s.cfg.n = true → s.cfg.n ≤ 65536 →
    exec .fftRun s
      = execAll (.fftBitrev :: (List.range s.cfg.n.log2).map fun k => .fftPass (BitVec.ofNat 32 (2 ^ k))) s
    ∧ (s.mem.filled .re s.cfg.n → s.mem.filled .im s.cfg.n →
        ∃ m : Memory,
          exec .fftRun s
            = .next { s with mem := m, coreOwner := s.coreOwner.set .c0 .ct, reply := some ⟨0, .ok⟩ }
          ∧ (∀ b k, m.read (.buf b) k = s.mem.read (.buf b) k)
          ∧ m.filled .re s.cfg.n ∧ m.filled .im s.cfg.n)

/-! Unit 8 -/

/-- R231: `MAG` is the larger absolute value plus `BETA` times the smaller one, on signed values, the sum
wrapping; the operands commute; nothing but the answer changes. -/
def Obligations.MagResult : Prop :=
  ∀ (re im : Word) (s : State), s.readyFor (.mag re im) →
    let a := (if re.msb then -re else re).toInt
    let b := (if im.msb then -im else im).toInt
    exec (.mag re im) s
      = .next { s with
          reply := some ⟨BitVec.ofInt 32 (max a b + (min a b * s.cfg.beta.toInt) / 2 ^ 15), .ok⟩ }
    ∧ exec (.mag im re) s = exec (.mag re im) s

/-- R232, R233, R234: `PEAK_SCAN` where the estimates of the bins 0 .. N/2-1 are `g`. The peak is the lowest of
the candidate bins `PEAK_MIN_BIN` .. N/2-1 with the largest positive estimate; with no positive candidate it
is (0, 0). Only `MAX_MAG`, `MAX_IDX` and the owner of core 0 change. -/
def Obligations.PeakScanFindsFirstMaximum : Prop :=
  ∀ (s : State) (g : Nat → Word), s.readyFor .peakScan →
    (∀ i < s.cfg.n / 2, ∃ re im, s.mem.read .re i = some re ∧ s.mem.read .im i = some im
      ∧ g i = magnitude s.cfg.beta re im) →
    ∃ (mag : Word) (idx : Nat),
      exec .peakScan s
        = .next { s with
            cons := { s.cons with maxMag := mag, maxIdx := BitVec.ofNat 16 idx }
            coreOwner := s.coreOwner.set .c0 .ct
            reply := some ⟨BitVec.ofNat 32 idx, .ok⟩ }
      ∧ ((mag = 0 ∧ idx = 0 ∧ ∀ i < s.cfg.n / 2, s.cfg.peakMinBin ≤ i → (g i).toInt ≤ 0)
        ∨ (s.cfg.peakMinBin ≤ idx ∧ idx < s.cfg.n / 2 ∧ mag = g idx ∧ 0 < mag.toInt
          ∧ ∀ i < s.cfg.n / 2, s.cfg.peakMinBin ≤ i →
              (g i).toInt ≤ mag.toInt ∧ (i < idx → (g i).toInt < mag.toInt)))

/-- R235: `PUB_FREQ` publishes the binary32 nearest to `MAX_IDX * FS_ACQ / N`, ties to even, and +0.0 for
bin 0; nothing but `MAX_FREQUENCY` and the owner of core 0 changes. -/
def Obligations.PubFreqIsNearestEven : Prop :=
  ∀ s : State, s.readyFor .pubFreq → 1 ≤ s.cfg.n → s.cfg.n ≤ 65536 → s.cfg.fsAcq < 2 ^ 32 →
    ∃ f : Word,
      exec .pubFreq s
        = .next { s with
            tele := { s.tele with maxFrequency := f }
            coreOwner := s.coreOwner.set .c0 .ct
            reply := some ⟨0, .ok⟩ }
      ∧ NearestEven ((s.cons.maxIdx.toNat : ℚ) * s.cfg.fsAcq / s.cfg.n) f
      ∧ (s.cons.maxIdx = 0 → f = 0)

/-- R236: `PUB_CNT_LD` (0x8300, from `CT`) copies `FFT_COUNT` into `CNT_TMP`, keeps core 0 and answers OK. -/
def Obligations.PubCntLdResult : Prop :=
  (encode .pubCntLd).cmd = 0x8300 ∧ Instr.issuer .pubCntLd = .ct
  ∧ ∀ s : State, s.readyFor .pubCntLd →
    exec .pubCntLd s
      = .next { s with
          cons := { s.cons with cntTmp := s.tele.fftCount }
          coreOwner := s.coreOwner.set .c0 .ct
          reply := some ⟨0, .ok⟩ }

/-- R237: `PUB_CNT_ST` stores `CNT_TMP` plus one, modulo 2^32, whatever `FFT_COUNT` is by then. -/
def Obligations.PubCntStResult : Prop :=
  ∀ s : State, s.readyFor .pubCntSt →
    exec .pubCntSt s
      = .next { s with
          tele := { s.tele with fftCount := BitVec.ofNat 32 ((s.cons.cntTmp.toNat + 1) % 2 ^ 32) }
          coreOwner := s.coreOwner.set .c0 .ct
          reply := some ⟨0, .ok⟩ }

/-- R238: the two races on the transform counter, with the heartbeat of core 1. (a) A clear between the load
and the store is undone. (b) A whole load and store between the heartbeat's read and its clear is lost: it is
in neither this report nor the counter. -/
def Obligations.CounterRaces : Prop :=
  ∀ (s : State) (q1 q2 q3 q4 q5 : Bool), s.runState = .running → s.cons.ctPc = 6 →
    s.coreOwner.at0 = .ct → s.coreOwner.at1 = .hb →
    (s.heart.at1.hbPc = 5 → s.inbox = [.task .ct q1, .task (.hb .c1) q2, .task .ct q3] →
      ∃ t, Host.Core.run Sys2Proof.core 3 s = .next t ∧ t.tele.fftCount = s.tele.fftCount + 1)
    ∧ (s.heart.at1.hbPc = 3 →
      s.inbox = [.task (.hb .c1) q1, .task .ct q2, .task .ct q3, .task (.hb .c1) q4, .task (.hb .c1) q5] →
      ∃ t, Host.Core.run Sys2Proof.core 5 s = .next t
        ∧ t.heart.at1.rptFft = s.tele.fftCount ∧ t.tele.fftCount = 0)

/-! Unit 9 -/

/-- R251: `SEM_WAIT` takes a semaphore that is set, in one step; otherwise it answers NOTREADY. The core is
given up in both cases, and nothing else changes. -/
def Obligations.SemWaitResult : Prop :=
  ∀ (c : CoreId) (s : State), s.readyFor (.semWait c) →
    (s.go.get c = true →
      exec (.semWait c) s
        = .next { s with
            go := s.go.set c false
            coreOwner := s.coreOwner.set c .none
            reply := some ⟨0, .ok⟩ })
    ∧ (s.go.get c = false →
      exec (.semWait c) s
        = .next { s with coreOwner := s.coreOwner.set c .none, reply := some ⟨0, .notReady⟩ })

/-- R252: `SEM_SIGNAL` sets the OTHER core's semaphore, whatever it held, and leaves its own alone. -/
def Obligations.SemSignalResult : Prop :=
  ∀ (c : CoreId) (s : State), s.readyFor (.semSignal c) →
    exec (.semSignal c) s
      = .next { s with
          go := s.go.set c.other true
          coreOwner := s.coreOwner.set c .hb
          reply := some ⟨0, .ok⟩ }

/-- R253: `HB_COUNT` increments the shared counter modulo 2^32, latches the new value and answers it. -/
def Obligations.HbCountResult : Prop :=
  ∀ (c : CoreId) (s : State), s.readyFor (.hbCount c) →
    let v : Word := BitVec.ofNat 32 ((s.tele.pingPong.toNat + 1) % 2 ^ 32)
    exec (.hbCount c) s
      = .next { s with
          tele := { s.tele with pingPong := v }
          heart := s.heart.set c { s.heart.get c with rptCnt := v }
          coreOwner := s.coreOwner.set c .hb
          reply := some ⟨v, .ok⟩ }

/-- R254, R255: the two telemetry reads latch the frequency and the transform count as they are at that
moment, and change nothing else. -/
def Obligations.HbReadsLatchTelemetry : Prop :=
  ∀ (c : CoreId) (s : State),
    (s.readyFor (.hbRdFreq c) → exec (.hbRdFreq c) s
      = .next { s with
          heart := s.heart.set c { s.heart.get c with rptFreq := s.tele.maxFrequency }
          coreOwner := s.coreOwner.set c .hb
          reply := some ⟨0, .ok⟩ })
    ∧ (s.readyFor (.hbRdFft c) → exec (.hbRdFft c) s
      = .next { s with
          heart := s.heart.set c { s.heart.get c with rptFft := s.tele.fftCount }
          coreOwner := s.coreOwner.set c .hb
          reply := some ⟨0, .ok⟩ })

/-- R256, R283, R286: `HB_EMIT` emits one line of the latched values, or, with the console not ready, raises
PERIPH and emits nothing; the task keeps the core in both cases. -/
def Obligations.HbEmitResult : Prop :=
  ∀ (c : CoreId) (s : State), s.readyFor (.hbEmit c) →
    (s.conReady = true → exec (.hbEmit c) s
      = .next { s with
          emitted :=
            .con c (s.heart.get c).rptCnt (s.heart.get c).rptFreq (s.heart.get c).rptFft :: s.emitted
          coreOwner := s.coreOwner.set c .hb
          reply := some ⟨0, .ok⟩ })
    ∧ (s.conReady = false → exec (.hbEmit c) s
      = .next { s with
          status := s.status ||| 0b0100
          lastCause := 3
          coreOwner := s.coreOwner.set c .hb
          reply := some ⟨0, .periph⟩ })

/-- R257: `HB_CLEAR c` (0x9600 with the core bit, from `HB[c]`) writes 0 to `FFT_COUNT`, keeps the core and
answers OK, in every state it is accepted in, whatever `HB_EMIT` answered. -/
def Obligations.HbClearResult : Prop :=
  ∀ c : CoreId, (encode (.hbClear c)).cmd = (match c with | .c0 => 0x9600 | .c1 => 0x9601)
    ∧ Instr.issuer (.hbClear c) = .hb c
    ∧ ∀ s : State, s.readyFor (.hbClear c) →
      exec (.hbClear c) s
        = .next { s with
            tele := { s.tele with fftCount := 0 }
            coreOwner := s.coreOwner.set c .hb
            reply := some ⟨0, .ok⟩ }

/-- R258: `HB_SLEEP` starts the sleep, polls it, or ends it; it gives the core up in all three cases. -/
def Obligations.HbSleepResult : Prop :=
  ∀ (c : CoreId) (s : State), s.readyFor (.hbSleep c) →
    ((s.heart.get c).sleepState = .idle → exec (.hbSleep c) s
      = .next { s with
          heart := s.heart.set c { s.heart.get c with sleepState := .counting }
          coreOwner := s.coreOwner.set c .none
          reply := some ⟨0, .notReady⟩ })
    ∧ ((s.heart.get c).sleepState = .counting → exec (.hbSleep c) s
      = .next { s with coreOwner := s.coreOwner.set c .none, reply := some ⟨0, .notReady⟩ })
    ∧ ((s.heart.get c).sleepState = .expired → exec (.hbSleep c) s
      = .next { s with
          heart := s.heart.set c { s.heart.get c with sleepState := .idle }
          coreOwner := s.coreOwner.set c .none
          reply := some ⟨0, .ok⟩ })

/-- R259: `SLEEP_EXPIRE c` (0x9800 with the core bit, from `SLEEPTIMER[c]`) ends a sleep in progress and
changes nothing otherwise; it answers OK always, whoever holds the core, and never touches the owner. -/
def Obligations.SleepExpireResult : Prop :=
  ∀ c : CoreId, (encode (.sleepExpire c)).cmd = (match c with | .c0 => 0x9800 | .c1 => 0x9801)
    ∧ Instr.issuer (.sleepExpire c) = .sleepTimer c
    ∧ ∀ s : State, s.readyFor (.sleepExpire c) →
      ((s.heart.get c).sleepState = .counting → exec (.sleepExpire c) s
        = .next { s with
            heart := s.heart.set c { s.heart.get c with sleepState := .expired }
            reply := some ⟨0, .ok⟩ })
      ∧ ((s.heart.get c).sleepState ≠ .counting →
        exec (.sleepExpire c) s = .next { s with reply := some ⟨0, .ok⟩ })

/-! The whole block -/

/-- R268: exactly one of the four tokens exists, and every step keeps it so, whatever the schedule. The
premise on the inbox is R96: no request ever occurs on the channel of an internal agent. -/
def Obligations.TokenKept : Prop :=
  ∀ s t : State, s.inboxOccurs → s.tokens = 1 → step s = .next t → t.inboxOccurs ∧ t.tokens = 1

/-- R41, R42, R268: after reset exactly one token exists, `GO[0]`. -/
def Obligations.TokenAtReset : Prop :=
  State.reset.inboxOccurs ∧ State.reset.tokens = 1 ∧ State.reset.go.at0 = true

/-- R292, R73, R67, R268 and the rest of `State.Inv`: from every state with the invariant the step leads to a
next state with the invariant, so the block never stops and never reads an element that nothing has
written. -/
def Obligations.InvariantKept : Prop := ∀ s : State, s.Inv → ∃ t, step s = .next t ∧ t.Inv

/-- The invariant holds after reset. -/
def Obligations.InvariantAtReset : Prop := State.reset.Inv

/-- R322, R324 to R328, R55: what releasing reset does with the configuration `g`. Where R326 rejects `g`:
CFGERR and a halt; else, where a ramp time is a multiple of 2^17: DIV0 and a halt. A halt leaves every register
but `CFG`, the error record and `RUN_STATE` as `rst` = 1 held it. Otherwise the block runs, with the increments
of R324 and every register that has a value in R55 at that value; the others are not written. -/
def Obligations.InitialisationOutcome : Prop :=
  ∀ (s : State) (g : Cfg), s.runState = .init →
    (CfgRejected g →
      s.handle (.rstLow g) = .next { s with
        cfg := g
        runState := .halted
        status := s.status ||| 0b0010
        lastCause := 2
        reply := none })
    ∧ (¬ CfgRejected g → g.attackTime.toNat % 2 ^ 17 = 0 ∨ g.decayTime.toNat % 2 ^ 17 = 0 →
      s.handle (.rstLow g) = .next { s with
        cfg := g
        runState := .halted
        status := s.status ||| 0b0001
        lastCause := 1
        reply := none })
    ∧ (¬ CfgRejected g → g.attackTime.toNat % 2 ^ 17 ≠ 0 → g.decayTime.toNat % 2 ^ 17 ≠ 0 →
      s.handle (.rstLow g) = .next { s with
        cfg := g
        runState := .running
        status := 0
        lastCause := 0
        attackInc := quotient64 g.maxAmplitude (g.attackTime <<< 15)
        decayInc := quotient64 g.maxAmplitude (g.decayTime <<< 15)
        synth :=
          ⟨⟨.active, 0, 0, 0, g.phaseIncInit.at0, s.synth.at0.dacOut⟩,
            ⟨.active, 0, 0, 0, g.phaseIncInit.at1, s.synth.at1.dacOut⟩⟩
        cap := ⟨.buf0, .buf1, 0, true, false⟩
        cons := ⟨0, 0, s.cons.cntTmp, 0⟩
        tele := ⟨0, 0, 0⟩
        go := ⟨true, false⟩
        heart :=
          ⟨⟨0, .idle, s.heart.at0.rptCnt, s.heart.at0.rptFreq, s.heart.at0.rptFft⟩,
            ⟨0, .idle, s.heart.at1.rptCnt, s.heart.at1.rptFreq, s.heart.at1.rptFft⟩⟩
        coreOwner := ⟨.none, .none⟩
        reply := none })

/-- R7, R55, R322: releasing reset with the default configuration gives the model's reset state (whose
registers without a value in the spec are at the model's choice, log 4). -/
def Obligations.ResetState : Prop :=
  (State.held Config.unsampledCfg).handle (.rstLow Cfg.default) = .next State.reset

/-- R320: nothing of the block survives `rst` = 1: from any two states it leads to states that differ at most
in what is not the block's (the ports, the history of outputs, the events to come). -/
def Obligations.NothingSurvivesReset : Prop :=
  ∀ s s' : State, ∃ t t', s.handle .rstHigh = .next t ∧ s'.handle .rstHigh = .next t'
    ∧ t.runState = .init ∧ t.status = 0 ∧ t.lastCause = 0 ∧ t.cap.armed = false ∧ t.emitted = s.emitted
    ∧ { t with
        agent := t'.agent
        conReady := t'.conReady
        emitted := t'.emitted
        inbox := t'.inbox
        arrivals := t'.arrivals
        draws := t'.draws } = t'

/-- R292: HALTED is entered only from INIT and left only by reset; in it no register changes and nothing is
emitted; only the ports of the request being answered show. -/
def Obligations.HaltIsForever : Prop :=
  (∀ (s : State) (e : Event) (rest : List Event), s.runState = .halted → s.inbox = e :: rest → e ≠ .rstHigh →
    ∃ (a : Agent) (conReady : Bool) (reply : Option Reply),
      step s = .next { s with inbox := rest, agent := a, conReady := conReady, reply := reply })
  ∧ ∀ s t : State, s.runState = .running → step s = .next t → t.runState ≠ .halted

/-- R198, R266, R271: while the consumer works on an epoch, the heartbeat of core 0 makes no step. -/
def Obligations.ConsumerHoldsCore : Prop :=
  ∀ (s : State) (conReady : Bool) (rest : List Event), s.Inv → 2 ≤ s.cons.ctPc.toNat →
    s.inbox = .task (.hb .c0) conReady :: rest →
      step s = .next { s with inbox := rest, reply := none }

/-- R267, R268, R251: a signalled heartbeat fires when it gets its turn. If `GO[1]` is set and `HB[1]` waits,
then after any events other than a reset or a turn of `HB[1]`, its next turn takes the semaphore and starts
the body. -/
def Obligations.SignalledHeartbeatFires : Prop :=
  ∀ (s : State) (es rest : List Event) (conReady : Bool), s.Inv → s.runState = .running →
    s.go.at1 = true → s.heart.at1.hbPc = 0 → s.inbox = es ++ .task (.hb .c1) conReady :: rest →
    (∀ e ∈ es, e ≠ .rstHigh ∧ ∀ q, e ≠ .task (.hb .c1) q) →
      ∃ t, Host.Core.run Sys2Proof.core (es.length + 1) s = .next t ∧ t.Inv
        ∧ t.runState = .running ∧ t.heart.at1.hbPc = 1 ∧ t.go.at1 = false ∧ t.inbox = rest

/-! The contents of the tables -/

/-- R150 to R153, R133 to R135: the contents of the three tables at the default `N`. `SUM` and `WSUM` are those
the spec lists; the entries at the quarter cycles are exact; over the first quarter the sine rises strictly,
sine and cosine lie on the circle, and the sine of the doubled angle is twice sine times cosine, each up to the
rounding of the entries; over the first half the window is half of one minus the cosine, up to that rounding
(the other quarters follow by the symmetries of R140); and the tables for `N` = 8 and `N` = 16 are the listed
ones. -/
def Obligations.TableContentsAreTheListed : Prop :=
  tableChecks 1024 (sineN 1024) = (0, 3121547264)
  ∧ tableChecks 1024 (hann 1024) = (16776706, 4294706176)
  ∧ tableChecks 256 sine256 = (0, 3953209344)
  ∧ sineN 1024 0 = 0 ∧ sineN 1024 256 = 32768 ∧ sineN 1024 512 = 0 ∧ sineN 1024 768 = -32768
  ∧ (∀ i < 256, (sineN 1024 i).toInt < (sineN 1024 (i + 1)).toInt)
  ∧ (∀ i < 256,
      ((sineN 1024 i).toInt ^ 2 + (sineN 1024 (i + 256)).toInt ^ 2 - 2 ^ 30).natAbs ≤ 2 ^ 17
      ∧ ((sineN 1024 (2 * i)).toInt * 2 ^ 15
          - 2 * (sineN 1024 i).toInt * (sineN 1024 (i + 256)).toInt).natAbs ≤ 2 ^ 17)
  ∧ (∀ i ≤ 512, (2 * (hann 1024 i).toInt - (2 ^ 15 - (sineN 1024 (i + 256)).toInt)).natAbs ≤ 2)
  ∧ (List.range 8).map (fun i => (sineN 8 i).toInt) = [0, 23170, 32768, 23170, 0, -23170, -32768, -23170]
  ∧ (List.range 8).map (fun i => (hann 8 i).toInt) = [0, 4798, 16384, 27969, 32768, 27969, 16384, 4798]
  ∧ (List.range 16).map (fun i => (sineN 16 i).toInt)
      = [0, 12539, 23170, 30273, 32768, 30273, 23170, 12539, 0, -12539, -23170, -30273, -32768, -30273, -23170,
        -12539]
  ∧ (List.range 16).map (fun i => (hann 16 i).toInt)
      = [0, 1247, 4798, 10114, 16384, 22653, 27969, 31520, 32768, 31520, 27969, 22653, 16384, 10114, 4798, 1247]

end
end

