-- ==== Sys2Proof/Laws/State.lean ====
section
/-! SUPPORT. One lemma per field per update of the state, and the laws of `Pair`. -/

namespace Sys2Proof

@[simp] theorem CoreId.other_other (c : CoreId) : c.other.other = c := by cases c <;> rfl
@[simp] theorem CoreId.other_ne (c : CoreId) : c.other ≠ c := by cases c <;> decide
@[simp] theorem CoreId.ne_other (c : CoreId) : c ≠ c.other := by cases c <;> decide

@[simp] theorem Pair.get_set_same {α : Type} (p : Pair α) (c : CoreId) (v : α) : (p.set c v).get c = v := by
  cases c <;> rfl

theorem Pair.get_set_ne {α : Type} (p : Pair α) (c d : CoreId) (v : α) (h : d ≠ c) :
    (p.set c v).get d = p.get d := by
  cases c <;> cases d <;> first | rfl | exact absurd rfl h

@[simp] theorem Pair.get_other_set {α : Type} (p : Pair α) (c : CoreId) (v : α) :
    (p.set c v).get c.other = p.get c.other := by cases c <;> rfl

@[simp] theorem Pair.get_set_other {α : Type} (p : Pair α) (c : CoreId) (v : α) :
    (p.set c.other v).get c = p.get c := by cases c <;> rfl

@[simp] theorem Pair.set_set {α : Type} (p : Pair α) (c : CoreId) (v w : α) : (p.set c v).set c w = p.set c w := by
  cases c <;> rfl

@[simp] theorem Pair.set_get {α : Type} (p : Pair α) (c : CoreId) : p.set c (p.get c) = p := by
  cases c <;> rfl

theorem Pair.set_comm {α : Type} (p : Pair α) (c : CoreId) (v w : α) :
    (p.set c v).set c.other w = (p.set c.other w).set c v := by cases c <;> rfl

end Sys2Proof

namespace Sys2Proof.Machine

@[simp] theorem State.answer_runState (s : State) (st : Status) (res : Word) : (s.answer st res).runState = s.runState := rfl
@[simp] theorem State.answer_status (s : State) (st : Status) (res : Word) : (s.answer st res).status = s.status := rfl
@[simp] theorem State.answer_lastCause (s : State) (st : Status) (res : Word) : (s.answer st res).lastCause = s.lastCause := rfl
@[simp] theorem State.answer_cfg (s : State) (st : Status) (res : Word) : (s.answer st res).cfg = s.cfg := rfl
@[simp] theorem State.answer_attackInc (s : State) (st : Status) (res : Word) : (s.answer st res).attackInc = s.attackInc := rfl
@[simp] theorem State.answer_decayInc (s : State) (st : Status) (res : Word) : (s.answer st res).decayInc = s.decayInc := rfl
@[simp] theorem State.answer_synth (s : State) (st : Status) (res : Word) : (s.answer st res).synth = s.synth := rfl
@[simp] theorem State.answer_cap (s : State) (st : Status) (res : Word) : (s.answer st res).cap = s.cap := rfl
@[simp] theorem State.answer_mem (s : State) (st : Status) (res : Word) : (s.answer st res).mem = s.mem := rfl
@[simp] theorem State.answer_cons (s : State) (st : Status) (res : Word) : (s.answer st res).cons = s.cons := rfl
@[simp] theorem State.answer_tele (s : State) (st : Status) (res : Word) : (s.answer st res).tele = s.tele := rfl
@[simp] theorem State.answer_go (s : State) (st : Status) (res : Word) : (s.answer st res).go = s.go := rfl
@[simp] theorem State.answer_heart (s : State) (st : Status) (res : Word) : (s.answer st res).heart = s.heart := rfl
@[simp] theorem State.answer_coreOwner (s : State) (st : Status) (res : Word) : (s.answer st res).coreOwner = s.coreOwner := rfl
@[simp] theorem State.answer_agent (s : State) (st : Status) (res : Word) : (s.answer st res).agent = s.agent := rfl
@[simp] theorem State.answer_conReady (s : State) (st : Status) (res : Word) : (s.answer st res).conReady = s.conReady := rfl
@[simp] theorem State.answer_reply (s : State) (st : Status) (res : Word) : (s.answer st res).reply = some ⟨res, st⟩ := rfl
@[simp] theorem State.answer_emitted (s : State) (st : Status) (res : Word) : (s.answer st res).emitted = s.emitted := rfl
@[simp] theorem State.answer_inbox (s : State) (st : Status) (res : Word) : (s.answer st res).inbox = s.inbox := rfl
@[simp] theorem State.answer_arrivals (s : State) (st : Status) (res : Word) : (s.answer st res).arrivals = s.arrivals := rfl
@[simp] theorem State.answer_draws (s : State) (st : Status) (res : Word) : (s.answer st res).draws = s.draws := rfl

@[simp] theorem State.record_runState (s : State) (k : Status) : (s.record k).runState = s.runState := rfl
@[simp] theorem State.record_status (s : State) (k : Status) : (s.record k).status = setSticky s.status k := rfl
@[simp] theorem State.record_lastCause (s : State) (k : Status) : (s.record k).lastCause = k.code := rfl
@[simp] theorem State.record_cfg (s : State) (k : Status) : (s.record k).cfg = s.cfg := rfl
@[simp] theorem State.record_attackInc (s : State) (k : Status) : (s.record k).attackInc = s.attackInc := rfl
@[simp] theorem State.record_decayInc (s : State) (k : Status) : (s.record k).decayInc = s.decayInc := rfl
@[simp] theorem State.record_synth (s : State) (k : Status) : (s.record k).synth = s.synth := rfl
@[simp] theorem State.record_cap (s : State) (k : Status) : (s.record k).cap = s.cap := rfl
@[simp] theorem State.record_mem (s : State) (k : Status) : (s.record k).mem = s.mem := rfl
@[simp] theorem State.record_cons (s : State) (k : Status) : (s.record k).cons = s.cons := rfl
@[simp] theorem State.record_tele (s : State) (k : Status) : (s.record k).tele = s.tele := rfl
@[simp] theorem State.record_go (s : State) (k : Status) : (s.record k).go = s.go := rfl
@[simp] theorem State.record_heart (s : State) (k : Status) : (s.record k).heart = s.heart := rfl
@[simp] theorem State.record_coreOwner (s : State) (k : Status) : (s.record k).coreOwner = s.coreOwner := rfl
@[simp] theorem State.record_agent (s : State) (k : Status) : (s.record k).agent = s.agent := rfl
@[simp] theorem State.record_conReady (s : State) (k : Status) : (s.record k).conReady = s.conReady := rfl
@[simp] theorem State.record_reply (s : State) (k : Status) : (s.record k).reply = s.reply := rfl
@[simp] theorem State.record_emitted (s : State) (k : Status) : (s.record k).emitted = s.emitted := rfl
@[simp] theorem State.record_inbox (s : State) (k : Status) : (s.record k).inbox = s.inbox := rfl
@[simp] theorem State.record_arrivals (s : State) (k : Status) : (s.record k).arrivals = s.arrivals := rfl
@[simp] theorem State.record_draws (s : State) (k : Status) : (s.record k).draws = s.draws := rfl

@[simp] theorem State.raise_runState (s : State) (k : Status) : (s.raise k).runState = s.runState := rfl
@[simp] theorem State.raise_status (s : State) (k : Status) : (s.raise k).status = setSticky s.status k := rfl
@[simp] theorem State.raise_lastCause (s : State) (k : Status) : (s.raise k).lastCause = k.code := rfl
@[simp] theorem State.raise_cfg (s : State) (k : Status) : (s.raise k).cfg = s.cfg := rfl
@[simp] theorem State.raise_attackInc (s : State) (k : Status) : (s.raise k).attackInc = s.attackInc := rfl
@[simp] theorem State.raise_decayInc (s : State) (k : Status) : (s.raise k).decayInc = s.decayInc := rfl
@[simp] theorem State.raise_synth (s : State) (k : Status) : (s.raise k).synth = s.synth := rfl
@[simp] theorem State.raise_cap (s : State) (k : Status) : (s.raise k).cap = s.cap := rfl
@[simp] theorem State.raise_mem (s : State) (k : Status) : (s.raise k).mem = s.mem := rfl
@[simp] theorem State.raise_cons (s : State) (k : Status) : (s.raise k).cons = s.cons := rfl
@[simp] theorem State.raise_tele (s : State) (k : Status) : (s.raise k).tele = s.tele := rfl
@[simp] theorem State.raise_go (s : State) (k : Status) : (s.raise k).go = s.go := rfl
@[simp] theorem State.raise_heart (s : State) (k : Status) : (s.raise k).heart = s.heart := rfl
@[simp] theorem State.raise_coreOwner (s : State) (k : Status) : (s.raise k).coreOwner = s.coreOwner := rfl
@[simp] theorem State.raise_agent (s : State) (k : Status) : (s.raise k).agent = s.agent := rfl
@[simp] theorem State.raise_conReady (s : State) (k : Status) : (s.raise k).conReady = s.conReady := rfl
@[simp] theorem State.raise_reply (s : State) (k : Status) : (s.raise k).reply = some ⟨0, k⟩ := rfl
@[simp] theorem State.raise_emitted (s : State) (k : Status) : (s.raise k).emitted = s.emitted := rfl
@[simp] theorem State.raise_inbox (s : State) (k : Status) : (s.raise k).inbox = s.inbox := rfl
@[simp] theorem State.raise_arrivals (s : State) (k : Status) : (s.raise k).arrivals = s.arrivals := rfl
@[simp] theorem State.raise_draws (s : State) (k : Status) : (s.raise k).draws = s.draws := rfl

@[simp] theorem State.setOwner_runState (s : State) (c : CoreId) (o : Owner) : (s.setOwner c o).runState = s.runState := rfl
@[simp] theorem State.setOwner_status (s : State) (c : CoreId) (o : Owner) : (s.setOwner c o).status = s.status := rfl
@[simp] theorem State.setOwner_lastCause (s : State) (c : CoreId) (o : Owner) : (s.setOwner c o).lastCause = s.lastCause := rfl
@[simp] theorem State.setOwner_cfg (s : State) (c : CoreId) (o : Owner) : (s.setOwner c o).cfg = s.cfg := rfl
@[simp] theorem State.setOwner_attackInc (s : State) (c : CoreId) (o : Owner) : (s.setOwner c o).attackInc = s.attackInc := rfl
@[simp] theorem State.setOwner_decayInc (s : State) (c : CoreId) (o : Owner) : (s.setOwner c o).decayInc = s.decayInc := rfl
@[simp] theorem State.setOwner_synth (s : State) (c : CoreId) (o : Owner) : (s.setOwner c o).synth = s.synth := rfl
@[simp] theorem State.setOwner_cap (s : State) (c : CoreId) (o : Owner) : (s.setOwner c o).cap = s.cap := rfl
@[simp] theorem State.setOwner_mem (s : State) (c : CoreId) (o : Owner) : (s.setOwner c o).mem = s.mem := rfl
@[simp] theorem State.setOwner_cons (s : State) (c : CoreId) (o : Owner) : (s.setOwner c o).cons = s.cons := rfl
@[simp] theorem State.setOwner_tele (s : State) (c : CoreId) (o : Owner) : (s.setOwner c o).tele = s.tele := rfl
@[simp] theorem State.setOwner_go (s : State) (c : CoreId) (o : Owner) : (s.setOwner c o).go = s.go := rfl
@[simp] theorem State.setOwner_heart (s : State) (c : CoreId) (o : Owner) : (s.setOwner c o).heart = s.heart := rfl
@[simp] theorem State.setOwner_coreOwner (s : State) (c : CoreId) (o : Owner) : (s.setOwner c o).coreOwner = s.coreOwner.set c o := rfl
@[simp] theorem State.setOwner_agent (s : State) (c : CoreId) (o : Owner) : (s.setOwner c o).agent = s.agent := rfl
@[simp] theorem State.setOwner_conReady (s : State) (c : CoreId) (o : Owner) : (s.setOwner c o).conReady = s.conReady := rfl
@[simp] theorem State.setOwner_reply (s : State) (c : CoreId) (o : Owner) : (s.setOwner c o).reply = s.reply := rfl
@[simp] theorem State.setOwner_emitted (s : State) (c : CoreId) (o : Owner) : (s.setOwner c o).emitted = s.emitted := rfl
@[simp] theorem State.setOwner_inbox (s : State) (c : CoreId) (o : Owner) : (s.setOwner c o).inbox = s.inbox := rfl
@[simp] theorem State.setOwner_arrivals (s : State) (c : CoreId) (o : Owner) : (s.setOwner c o).arrivals = s.arrivals := rfl
@[simp] theorem State.setOwner_draws (s : State) (c : CoreId) (o : Owner) : (s.setOwner c o).draws = s.draws := rfl

@[simp] theorem State.emit_runState (s : State) (o : Output) : (s.emit o).runState = s.runState := rfl
@[simp] theorem State.emit_status (s : State) (o : Output) : (s.emit o).status = s.status := rfl
@[simp] theorem State.emit_lastCause (s : State) (o : Output) : (s.emit o).lastCause = s.lastCause := rfl
@[simp] theorem State.emit_cfg (s : State) (o : Output) : (s.emit o).cfg = s.cfg := rfl
@[simp] theorem State.emit_attackInc (s : State) (o : Output) : (s.emit o).attackInc = s.attackInc := rfl
@[simp] theorem State.emit_decayInc (s : State) (o : Output) : (s.emit o).decayInc = s.decayInc := rfl
@[simp] theorem State.emit_synth (s : State) (o : Output) : (s.emit o).synth = s.synth := rfl
@[simp] theorem State.emit_cap (s : State) (o : Output) : (s.emit o).cap = s.cap := rfl
@[simp] theorem State.emit_mem (s : State) (o : Output) : (s.emit o).mem = s.mem := rfl
@[simp] theorem State.emit_cons (s : State) (o : Output) : (s.emit o).cons = s.cons := rfl
@[simp] theorem State.emit_tele (s : State) (o : Output) : (s.emit o).tele = s.tele := rfl
@[simp] theorem State.emit_go (s : State) (o : Output) : (s.emit o).go = s.go := rfl
@[simp] theorem State.emit_heart (s : State) (o : Output) : (s.emit o).heart = s.heart := rfl
@[simp] theorem State.emit_coreOwner (s : State) (o : Output) : (s.emit o).coreOwner = s.coreOwner := rfl
@[simp] theorem State.emit_agent (s : State) (o : Output) : (s.emit o).agent = s.agent := rfl
@[simp] theorem State.emit_conReady (s : State) (o : Output) : (s.emit o).conReady = s.conReady := rfl
@[simp] theorem State.emit_reply (s : State) (o : Output) : (s.emit o).reply = s.reply := rfl
@[simp] theorem State.emit_emitted (s : State) (o : Output) : (s.emit o).emitted = o :: s.emitted := rfl
@[simp] theorem State.emit_inbox (s : State) (o : Output) : (s.emit o).inbox = s.inbox := rfl
@[simp] theorem State.emit_arrivals (s : State) (o : Output) : (s.emit o).arrivals = s.arrivals := rfl
@[simp] theorem State.emit_draws (s : State) (o : Output) : (s.emit o).draws = s.draws := rfl

@[simp] theorem State.setSynth_runState (s : State) (c : CoreId) (y : Synth) : (s.setSynth c y).runState = s.runState := rfl
@[simp] theorem State.setSynth_status (s : State) (c : CoreId) (y : Synth) : (s.setSynth c y).status = s.status := rfl
@[simp] theorem State.setSynth_lastCause (s : State) (c : CoreId) (y : Synth) : (s.setSynth c y).lastCause = s.lastCause := rfl
@[simp] theorem State.setSynth_cfg (s : State) (c : CoreId) (y : Synth) : (s.setSynth c y).cfg = s.cfg := rfl
@[simp] theorem State.setSynth_attackInc (s : State) (c : CoreId) (y : Synth) : (s.setSynth c y).attackInc = s.attackInc := rfl
@[simp] theorem State.setSynth_decayInc (s : State) (c : CoreId) (y : Synth) : (s.setSynth c y).decayInc = s.decayInc := rfl
@[simp] theorem State.setSynth_synth (s : State) (c : CoreId) (y : Synth) : (s.setSynth c y).synth = s.synth.set c y := rfl
@[simp] theorem State.setSynth_cap (s : State) (c : CoreId) (y : Synth) : (s.setSynth c y).cap = s.cap := rfl
@[simp] theorem State.setSynth_mem (s : State) (c : CoreId) (y : Synth) : (s.setSynth c y).mem = s.mem := rfl
@[simp] theorem State.setSynth_cons (s : State) (c : CoreId) (y : Synth) : (s.setSynth c y).cons = s.cons := rfl
@[simp] theorem State.setSynth_tele (s : State) (c : CoreId) (y : Synth) : (s.setSynth c y).tele = s.tele := rfl
@[simp] theorem State.setSynth_go (s : State) (c : CoreId) (y : Synth) : (s.setSynth c y).go = s.go := rfl
@[simp] theorem State.setSynth_heart (s : State) (c : CoreId) (y : Synth) : (s.setSynth c y).heart = s.heart := rfl
@[simp] theorem State.setSynth_coreOwner (s : State) (c : CoreId) (y : Synth) : (s.setSynth c y).coreOwner = s.coreOwner := rfl
@[simp] theorem State.setSynth_agent (s : State) (c : CoreId) (y : Synth) : (s.setSynth c y).agent = s.agent := rfl
@[simp] theorem State.setSynth_conReady (s : State) (c : CoreId) (y : Synth) : (s.setSynth c y).conReady = s.conReady := rfl
@[simp] theorem State.setSynth_reply (s : State) (c : CoreId) (y : Synth) : (s.setSynth c y).reply = s.reply := rfl
@[simp] theorem State.setSynth_emitted (s : State) (c : CoreId) (y : Synth) : (s.setSynth c y).emitted = s.emitted := rfl
@[simp] theorem State.setSynth_inbox (s : State) (c : CoreId) (y : Synth) : (s.setSynth c y).inbox = s.inbox := rfl
@[simp] theorem State.setSynth_arrivals (s : State) (c : CoreId) (y : Synth) : (s.setSynth c y).arrivals = s.arrivals := rfl
@[simp] theorem State.setSynth_draws (s : State) (c : CoreId) (y : Synth) : (s.setSynth c y).draws = s.draws := rfl

@[simp] theorem State.setHeart_runState (s : State) (c : CoreId) (h : Heart) : (s.setHeart c h).runState = s.runState := rfl
@[simp] theorem State.setHeart_status (s : State) (c : CoreId) (h : Heart) : (s.setHeart c h).status = s.status := rfl
@[simp] theorem State.setHeart_lastCause (s : State) (c : CoreId) (h : Heart) : (s.setHeart c h).lastCause = s.lastCause := rfl
@[simp] theorem State.setHeart_cfg (s : State) (c : CoreId) (h : Heart) : (s.setHeart c h).cfg = s.cfg := rfl
@[simp] theorem State.setHeart_attackInc (s : State) (c : CoreId) (h : Heart) : (s.setHeart c h).attackInc = s.attackInc := rfl
@[simp] theorem State.setHeart_decayInc (s : State) (c : CoreId) (h : Heart) : (s.setHeart c h).decayInc = s.decayInc := rfl
@[simp] theorem State.setHeart_synth (s : State) (c : CoreId) (h : Heart) : (s.setHeart c h).synth = s.synth := rfl
@[simp] theorem State.setHeart_cap (s : State) (c : CoreId) (h : Heart) : (s.setHeart c h).cap = s.cap := rfl
@[simp] theorem State.setHeart_mem (s : State) (c : CoreId) (h : Heart) : (s.setHeart c h).mem = s.mem := rfl
@[simp] theorem State.setHeart_cons (s : State) (c : CoreId) (h : Heart) : (s.setHeart c h).cons = s.cons := rfl
@[simp] theorem State.setHeart_tele (s : State) (c : CoreId) (h : Heart) : (s.setHeart c h).tele = s.tele := rfl
@[simp] theorem State.setHeart_go (s : State) (c : CoreId) (h : Heart) : (s.setHeart c h).go = s.go := rfl
@[simp] theorem State.setHeart_heart (s : State) (c : CoreId) (h : Heart) : (s.setHeart c h).heart = s.heart.set c h := rfl
@[simp] theorem State.setHeart_coreOwner (s : State) (c : CoreId) (h : Heart) : (s.setHeart c h).coreOwner = s.coreOwner := rfl
@[simp] theorem State.setHeart_agent (s : State) (c : CoreId) (h : Heart) : (s.setHeart c h).agent = s.agent := rfl
@[simp] theorem State.setHeart_conReady (s : State) (c : CoreId) (h : Heart) : (s.setHeart c h).conReady = s.conReady := rfl
@[simp] theorem State.setHeart_reply (s : State) (c : CoreId) (h : Heart) : (s.setHeart c h).reply = s.reply := rfl
@[simp] theorem State.setHeart_emitted (s : State) (c : CoreId) (h : Heart) : (s.setHeart c h).emitted = s.emitted := rfl
@[simp] theorem State.setHeart_inbox (s : State) (c : CoreId) (h : Heart) : (s.setHeart c h).inbox = s.inbox := rfl
@[simp] theorem State.setHeart_arrivals (s : State) (c : CoreId) (h : Heart) : (s.setHeart c h).arrivals = s.arrivals := rfl
@[simp] theorem State.setHeart_draws (s : State) (c : CoreId) (h : Heart) : (s.setHeart c h).draws = s.draws := rfl

@[simp] theorem State.open_runState (s : State) (a : Agent) (b : Bool) : (s.open a b).runState = s.runState := rfl
@[simp] theorem State.open_status (s : State) (a : Agent) (b : Bool) : (s.open a b).status = s.status := rfl
@[simp] theorem State.open_lastCause (s : State) (a : Agent) (b : Bool) : (s.open a b).lastCause = s.lastCause := rfl
@[simp] theorem State.open_cfg (s : State) (a : Agent) (b : Bool) : (s.open a b).cfg = s.cfg := rfl
@[simp] theorem State.open_attackInc (s : State) (a : Agent) (b : Bool) : (s.open a b).attackInc = s.attackInc := rfl
@[simp] theorem State.open_decayInc (s : State) (a : Agent) (b : Bool) : (s.open a b).decayInc = s.decayInc := rfl
@[simp] theorem State.open_synth (s : State) (a : Agent) (b : Bool) : (s.open a b).synth = s.synth := rfl
@[simp] theorem State.open_cap (s : State) (a : Agent) (b : Bool) : (s.open a b).cap = s.cap := rfl
@[simp] theorem State.open_mem (s : State) (a : Agent) (b : Bool) : (s.open a b).mem = s.mem := rfl
@[simp] theorem State.open_cons (s : State) (a : Agent) (b : Bool) : (s.open a b).cons = s.cons := rfl
@[simp] theorem State.open_tele (s : State) (a : Agent) (b : Bool) : (s.open a b).tele = s.tele := rfl
@[simp] theorem State.open_go (s : State) (a : Agent) (b : Bool) : (s.open a b).go = s.go := rfl
@[simp] theorem State.open_heart (s : State) (a : Agent) (b : Bool) : (s.open a b).heart = s.heart := rfl
@[simp] theorem State.open_coreOwner (s : State) (a : Agent) (b : Bool) : (s.open a b).coreOwner = s.coreOwner := rfl
@[simp] theorem State.open_agent (s : State) (a : Agent) (b : Bool) : (s.open a b).agent = a := rfl
@[simp] theorem State.open_conReady (s : State) (a : Agent) (b : Bool) : (s.open a b).conReady = b := rfl
@[simp] theorem State.open_reply (s : State) (a : Agent) (b : Bool) : (s.open a b).reply = none := rfl
@[simp] theorem State.open_emitted (s : State) (a : Agent) (b : Bool) : (s.open a b).emitted = s.emitted := rfl
@[simp] theorem State.open_inbox (s : State) (a : Agent) (b : Bool) : (s.open a b).inbox = s.inbox := rfl
@[simp] theorem State.open_arrivals (s : State) (a : Agent) (b : Bool) : (s.open a b).arrivals = s.arrivals := rfl
@[simp] theorem State.open_draws (s : State) (a : Agent) (b : Bool) : (s.open a b).draws = s.draws := rfl

end Sys2Proof.Machine
end

