-- ==== Sys2Proof/Laws/Memory.lean ====
section
/-! SUPPORT. The laws of the storage spaces: a read after a write, the canonical form, and which spaces a
write leaves alone (`spec/20_memory.md` R60). -/

namespace Sys2Proof.Machine

theorem readStore_writeStore_same (st : Store) (i : Nat) (v : Word) :
    readStore (writeStore st i v) i = some v := by
  induction st with
  | nil => simp [writeStore, readStore]
  | cons p rest ih =>
    obtain ⟨j, u⟩ := p
    unfold writeStore
    split
    · simp [readStore]
    · split
      · simp [readStore]
      · next h => simp [readStore, h, ih]

theorem readStore_writeStore_ne (st : Store) (i k : Nat) (v : Word) (h : k ≠ i) :
    readStore (writeStore st i v) k = readStore st k := by
  induction st with
  | nil => simp [writeStore, readStore, h]
  | cons p rest ih =>
    obtain ⟨j, u⟩ := p
    unfold writeStore
    split
    · simp [readStore, h]
    · split
      · next hij => subst hij; simp [readStore, h]
      · simp [readStore, ih]

@[simp] theorem Memory.store_write_same (m : Memory) (sp : Space) (i : Nat) (v : Word) :
    (m.write sp i v).store sp = writeStore (m.store sp) i v := by
  rcases sp with ⟨_ | _⟩ | _ | _ <;> rfl

theorem Memory.store_write_ne (m : Memory) (sp sq : Space) (i : Nat) (v : Word) (h : sq ≠ sp) :
    (m.write sp i v).store sq = m.store sq := by
  rcases sp with ⟨_ | _⟩ | _ | _ <;> rcases sq with ⟨_ | _⟩ | _ | _ <;> first | rfl | exact absurd rfl h

/-- Reading the element just written. -/
@[simp] theorem Memory.read_write_same (m : Memory) (sp : Space) (i : Nat) (v : Word) :
    (m.write sp i v).read sp i = some v := by
  simp [Memory.read, readStore_writeStore_same]

/-- A write leaves every other element of every space alone. -/
theorem Memory.read_write_ne (m : Memory) (sp sq : Space) (i k : Nat) (v : Word) (h : (sq, k) ≠ (sp, i)) :
    (m.write sp i v).read sq k = m.read sq k := by
  by_cases hs : sq = sp
  · subst hs
    have hk : k ≠ i := fun e => h (by rw [e])
    simp [Memory.read, readStore_writeStore_ne _ _ _ _ hk]
  · simp [Memory.read, Memory.store_write_ne m sp sq i v hs]

/-- What a read after a write gives, in one equation. -/
theorem Memory.read_write (m : Memory) (sp sq : Space) (i k : Nat) (v : Word) :
    (m.write sp i v).read sq k = if (sq, k) = (sp, i) then some v else m.read sq k := by
  split
  · next h => cases h; simp
  · next h => exact Memory.read_write_ne m sp sq i k v h

theorem mem_writeStore (st : Store) (i : Nat) (v : Word) (p : Nat × Word) (h : p ∈ writeStore st i v) :
    p = (i, v) ∨ p ∈ st := by
  induction st with
  | nil => simpa [writeStore] using h
  | cons q rest ih =>
    obtain ⟨j, u⟩ := q
    unfold writeStore at h
    split at h
    · simpa using h
    · split at h
      · rcases List.mem_cons.1 h with h | h
        · exact .inl h
        · exact .inr (List.mem_cons_of_mem _ h)
      · rcases List.mem_cons.1 h with h | h
        · exact .inr (h ▸ List.mem_cons_self)
        · rcases ih h with h | h
          · exact .inl h
          · exact .inr (List.mem_cons_of_mem _ h)

/-- A write inside the store keeps the canonical form. -/
theorem storeWf_writeStore (n : Nat) (st : Store) (i : Nat) (v : Word) (hi : i < n) (h : storeWf n st) :
    storeWf n (writeStore st i v) := by
  obtain ⟨hs, hb⟩ := h
  refine ⟨?_, fun p hp => ?_⟩
  · clear hb
    induction st with
    | nil => simp [writeStore]
    | cons q rest ih =>
      obtain ⟨j, u⟩ := q
      obtain ⟨h1, h2⟩ := List.pairwise_cons.1 hs
      unfold writeStore
      split
      · next hlt =>
        refine List.pairwise_cons.2 ⟨fun p hp => ?_, hs⟩
        rcases List.mem_cons.1 hp with rfl | hp
        · exact hlt
        · exact Nat.lt_trans hlt (h1 p hp)
      · split
        · next heq => subst heq; exact List.pairwise_cons.2 ⟨h1, h2⟩
        · next hlt hne =>
          refine List.pairwise_cons.2 ⟨fun p hp => ?_, ih h2⟩
          rcases mem_writeStore rest i v p hp with rfl | hp
          · show j < i
            omega
          · exact h1 p hp
  · rcases mem_writeStore st i v p hp with rfl | hp
    · exact hi
    · exact hb p hp

/-- A write inside a space keeps the canonical form of the storage. -/
theorem Memory.wf_write (n : Nat) (m : Memory) (sp : Space) (i : Nat) (v : Word) (hi : i < n)
    (h : m.wf n) : (m.write sp i v).wf n := by
  obtain ⟨h0, h1, h2, h3⟩ := h
  rcases sp with ⟨_ | _⟩ | _ | _
  · exact ⟨storeWf_writeStore n _ i v hi h0, h1, h2, h3⟩
  · exact ⟨h0, storeWf_writeStore n _ i v hi h1, h2, h3⟩
  · exact ⟨h0, h1, storeWf_writeStore n _ i v hi h2, h3⟩
  · exact ⟨h0, h1, h2, storeWf_writeStore n _ i v hi h3⟩

/-- The storage after reset is in canonical form. -/
theorem Memory.wf_empty (n : Nat) : Memory.empty.wf n := by
  simp [Memory.empty, Memory.wf, storeWf]

theorem reset_memory_wf : State.reset.mem.wf State.reset.cfg.n := Memory.wf_empty _

/-- Two canonical stores that read alike are the same data. -/
theorem store_ext (n : Nat) (a b : Store) (ha : storeWf n a) (hb : storeWf n b)
    (h : ∀ i, readStore a i = readStore b i) : a = b := by
  have none_of_lt : ∀ (st : Store) (i : Nat), (∀ p ∈ st, i < p.1) → readStore st i = none := by
    intro st
    induction st with
    | nil => intro i _; rfl
    | cons p rest ih =>
      intro i hlt
      have h1 := hlt p List.mem_cons_self
      have h2 := ih i fun q hq => hlt q (List.mem_cons_of_mem _ hq)
      obtain ⟨j, u⟩ := p
      simp only at h1
      simp [readStore, h2, Nat.ne_of_lt h1]
  induction a generalizing b with
  | nil =>
    cases b with
    | nil => rfl
    | cons p rest =>
      have := h p.1
      simp [readStore] at this
  | cons p rest ih =>
    obtain ⟨j, u⟩ := p
    obtain ⟨ha1, ha2⟩ := List.pairwise_cons.1 ha.1
    cases b with
    | nil =>
      have := h j
      simp [readStore] at this
    | cons q rest' =>
      obtain ⟨k, w⟩ := q
      obtain ⟨hb1, hb2⟩ := List.pairwise_cons.1 hb.1
      have hjk : j = k := by
        rcases Nat.lt_trichotomy j k with hlt | rfl | hlt
        · have h1 := h j
          have h2 : readStore rest' j = none :=
            none_of_lt rest' j fun p hp => Nat.lt_trans hlt (hb1 p hp)
          simp [readStore, h2, Nat.ne_of_lt hlt] at h1
        · rfl
        · have h1 := h k
          have h2 : readStore rest k = none :=
            none_of_lt rest k fun p hp => Nat.lt_trans hlt (ha1 p hp)
          simp [readStore, h2, Nat.ne_of_lt hlt] at h1
      subst hjk
      have huw : u = w := by simpa [readStore] using h j
      subst huw
      have : rest = rest' := by
        refine ih rest' ⟨ha2, fun p hp => ha.2 p (List.mem_cons_of_mem _ hp)⟩
          ⟨hb2, fun p hp => hb.2 p (List.mem_cons_of_mem _ hp)⟩ fun i => ?_
        by_cases hi : i = j
        · subst hi
          rw [none_of_lt rest i fun p hp => ha1 p hp, none_of_lt rest' i fun p hp => hb1 p hp]
        · simpa [readStore, hi] using h i
      rw [this]

end Sys2Proof.Machine
end

