-- ==== Sys2Proof/Laws/Ops.lean ====
section
/-! SUPPORT. What each shared operation can do, said once (`Machine/Ops.lean`). -/

namespace Sys2Proof.Machine

/-- R104: a block that is not RUNNING answers NOTRUNNING. -/
theorem whileRunning_stopped (s : State) (body : State → Out) (h : s.runState ≠ .running) :
    s.whileRunning body = .next (s.answer .notRunning 0) := by
  unfold State.whileRunning
  cases hr : s.runState <;> first | exact absurd hr h | rfl

theorem whileRunning_running (s : State) (body : State → Out) (h : s.runState = .running) :
    s.whileRunning body = body s := by
  unfold State.whileRunning
  rw [h]

/-- The whole of R290 checks 1 and 3, by cases. -/
theorem fromIssuer_eq (s : State) (a : Agent) (body : State → Out) :
    s.fromIssuer a body =
      if s.runState = .running then (if s.agent = a then body s else .next (s.raise .illcmd))
      else .next (s.answer .notRunning 0) := by
  unfold State.fromIssuer
  split
  · next h => exact whileRunning_running s _ h
  · next h => exact whileRunning_stopped s _ h

theorem fromIssuer_ready (s : State) (a : Agent) (body : State → Out) (hr : s.runState = .running)
    (ha : s.agent = a) : s.fromIssuer a body = body s := by
  rw [fromIssuer_eq, if_pos hr, if_pos ha]

theorem fromIssuer_wrong (s : State) (a : Agent) (body : State → Out) (hr : s.runState = .running)
    (ha : s.agent ≠ a) : s.fromIssuer a body = .next (s.raise .illcmd) := by
  rw [fromIssuer_eq, if_pos hr, if_neg ha]

theorem fromIssuer_stopped (s : State) (a : Agent) (body : State → Out) (hr : s.runState ≠ .running) :
    s.fromIssuer a body = .next (s.answer .notRunning 0) := by
  rw [fromIssuer_eq, if_neg hr]

/-- If a request leads to a next state, one of these three cases holds. -/
theorem fromIssuer_cases (s t : State) (a : Agent) (body : State → Out)
    (h : s.fromIssuer a body = .next t) :
    (s.runState ≠ .running ∧ t = s.answer .notRunning 0)
      ∨ (s.runState = .running ∧ s.agent ≠ a ∧ t = s.raise .illcmd)
      ∨ (s.runState = .running ∧ s.agent = a ∧ body s = .next t) := by
  rw [fromIssuer_eq] at h
  split at h
  · next hr =>
    split at h
    · next ha => exact .inr (.inr ⟨hr, ha, h⟩)
    · next ha => cases h; exact .inr (.inl ⟨hr, ha, rfl⟩)
  · next hr => cases h; exact .inl ⟨hr, rfl⟩

theorem illegal_eq (s : State) :
    s.illegal = if s.runState = .running then .next (s.raise .illcmd) else .next (s.answer .notRunning 0) := by
  unfold State.illegal
  split
  · next h => exact whileRunning_running s _ h
  · next h => exact whileRunning_stopped s _ h

/-- If the evaluation over storage leads to a next state, the storage was computed. -/
theorem withMemory_cases (s t : State) (m : Option Memory) (k : State → State)
    (h : s.withMemory m k = .next t) : ∃ m', m = some m' ∧ t = k { s with mem := m' } := by
  cases m with
  | none => cases h
  | some m' => cases h; exact ⟨m', rfl, rfl⟩

theorem withMemory_some (s : State) (m : Memory) (k : State → State) :
    s.withMemory (some m) k = .next (k { s with mem := m }) := rfl

/-- A raised error is its sticky bit, its cause and its answer; nothing else (R283). -/
theorem raise_eq (s : State) (k : Status) :
    s.raise k = { s with
      status := setSticky s.status k, lastCause := k.code, reply := some ⟨0, k⟩ } := rfl

/-- R24: a sticky bit that is set stays set. -/
theorem setSticky_keeps (st : BitVec 4) (k : Status) : st &&& setSticky st k = st := by
  cases k <;> revert st <;> decide

end Sys2Proof.Machine
end

