-- ==== Sys2Proof/Laws/Loops.lean ====
section
/-! SUPPORT. Loops over storage: an invariant of every iteration is an invariant of the loop, and every
storage operation keeps the canonical form. -/

namespace Sys2Proof.Machine

/-- If every iteration succeeds and keeps `P`, the loop succeeds and `P` holds after it. -/
theorem foldlM_some {α β : Type} (P : β → Prop) (f : β → α → Option β) (l : List α)
    (hf : ∀ b, ∀ a ∈ l, P b → ∃ b', f b a = some b' ∧ P b') (b : β) (hb : P b) :
    ∃ b', l.foldlM f b = some b' ∧ P b' := by
  induction l generalizing b with
  | nil => exact ⟨b, rfl, hb⟩
  | cons a rest ih =>
    obtain ⟨b1, h1, hb1⟩ := hf b a List.mem_cons_self hb
    obtain ⟨b2, h2, hb2⟩ := ih (fun b x hx => hf b x (List.mem_cons_of_mem _ hx)) b1 hb1
    exact ⟨b2, by simp [h1, h2], hb2⟩

/-- If every iteration that succeeds keeps `P`, a loop that succeeds keeps `P`. -/
theorem foldlM_keeps {α β : Type} (P : β → Prop) (f : β → α → Option β) (l : List α)
    (hf : ∀ b b', ∀ a ∈ l, f b a = some b' → P b → P b') (b b' : β) (h : l.foldlM f b = some b')
    (hb : P b) : P b' := by
  induction l generalizing b with
  | nil => simp at h; exact h ▸ hb
  | cons a rest ih =>
    simp only [List.foldlM_cons, Option.bind_eq_bind, Option.bind_eq_some_iff] at h
    obtain ⟨b1, h1, h2⟩ := h
    exact ih (fun b b' x hx => hf b b' x (List.mem_cons_of_mem _ hx)) b1 h2
      (hf b b1 a List.mem_cons_self h1 hb)

theorem bitrev_lt (bits m : Nat) : bitrev bits m < 2 ^ bits := by
  induction bits generalizing m with
  | zero => simp [bitrev]
  | succ k ih =>
    have h1 := ih (m / 2)
    have h2 : m % 2 ≤ 1 := by omega
    have h3 : m % 2 * 2 ^ k ≤ 1 * 2 ^ k := Nat.mul_le_mul_right _ h2
    simp only [bitrev, Nat.pow_succ]
    omega

/-- What one iteration of `WIN_LOAD` does. -/
theorem windowElement_eq (n : Nat) (b : BufSel) (m m' : Memory) (i : Nat)
    (h : windowElement n b m i = some m') :
    ∃ x, m.read (.buf b) i = some x
      ∧ m' = (m.write .re i (mul (fromInt x) (hann n i))).write .im i 0 := by
  unfold windowElement at h
  split at h
  · next x hx => cases h; exact ⟨x, hx, rfl⟩
  · cases h

/-- What exchanging two elements does. -/
theorem swapElements_eq (sp : Space) (m m' : Memory) (i j : Nat) (h : swapElements sp m i j = some m') :
    ∃ x y, m.read sp i = some x ∧ m.read sp j = some y ∧ m' = (m.write sp i y).write sp j x := by
  unfold swapElements at h
  split at h
  · next x y hx hy => cases h; exact ⟨x, y, hx, hy, rfl⟩
  · cases h

/-- What one iteration of the bit-reversal loop does. -/
theorem bitrevElement_eq (bits : Nat) (m m' : Memory) (k : Nat) (h : bitrevElement bits m k = some m') :
    (bitrev bits k ≤ k ∧ m' = m)
      ∨ (k < bitrev bits k ∧ ∃ m1, swapElements .re m k (bitrev bits k) = some m1
          ∧ swapElements .im m1 k (bitrev bits k) = some m') := by
  unfold bitrevElement at h
  simp only at h
  split at h
  · next hlt =>
    split at h
    · next m1 h1 => exact .inr ⟨hlt, m1, h1, h⟩
    · cases h
  · next hge => cases h; exact .inl ⟨Nat.le_of_not_lt hge, rfl⟩

/-- What one butterfly does. -/
theorem butterfly_eq (wr wi : Word) (m m' : Memory) (i j : Nat) (h : butterfly wr wi m i j = some m') :
    ∃ ri ii rj ij, m.read .re i = some ri ∧ m.read .im i = some ii ∧ m.read .re j = some rj
      ∧ m.read .im j = some ij
      ∧ m' = (((m.write .re j (sub32 (half ri) (sub32 (mul wr rj) (mul wi ij)))).write
          .im j (sub32 (half ii) (add32 (mul wr ij) (mul wi rj)))).write
          .re i (add32 (half ri) (sub32 (mul wr rj) (mul wi ij)))).write
          .im i (add32 (half ii) (add32 (mul wr ij) (mul wi rj))) := by
  unfold butterfly at h
  split at h
  · next ri ii rj ij h1 h2 h3 h4 => cases h; exact ⟨ri, ii, rj, ij, h1, h2, h3, h4, rfl⟩
  · cases h

theorem windowLoad_wf (n : Nat) (b : BufSel) (m m' : Memory) (h : windowLoad n b m = some m')
    (hm : m.wf n) : m'.wf n := by
  refine foldlM_keeps (fun m => m.wf n) _ _ (fun m1 m2 i hi h1 hm1 => ?_) m m' h hm
  obtain ⟨x, -, rfl⟩ := windowElement_eq n b m1 m2 i h1
  have hi := List.mem_range.1 hi
  exact Memory.wf_write _ _ _ _ _ hi (Memory.wf_write _ _ _ _ _ hi hm1)

theorem swapElements_wf (n : Nat) (sp : Space) (m m' : Memory) (i j : Nat) (hi : i < n) (hj : j < n)
    (h : swapElements sp m i j = some m') (hm : m.wf n) : m'.wf n := by
  obtain ⟨x, y, -, -, rfl⟩ := swapElements_eq sp m m' i j h
  exact Memory.wf_write _ _ _ _ _ hj (Memory.wf_write _ _ _ _ _ hi hm)

theorem bitrevAll_wf (n : Nat) (m m' : Memory) (h : bitrevAll n m = some m') (hm : m.wf n) : m'.wf n := by
  refine foldlM_keeps (fun m => m.wf n) _ _ (fun m1 m2 k hk h1 hm1 => ?_) m m' h hm
  rcases bitrevElement_eq _ _ _ _ h1 with ⟨-, rfl⟩ | ⟨-, m3, h3, h4⟩
  · exact hm1
  · have hk := List.mem_range'.1 hk
    have hkn : k < n := by omega
    have hr : bitrev n.log2 k < n :=
      Nat.lt_of_lt_of_le (bitrev_lt _ _) (Nat.log2_self_le (by omega))
    exact swapElements_wf n .im m3 m2 k _ hkn hr h4 (swapElements_wf n .re m1 m3 k _ hkn hr h3 hm1)

theorem butterfly_wf (n : Nat) (wr wi : Word) (m m' : Memory) (i j : Nat) (hi : i < n) (hj : j < n)
    (h : butterfly wr wi m i j = some m') (hm : m.wf n) : m'.wf n := by
  obtain ⟨ri, ii, rj, ij, -, -, -, -, rfl⟩ := butterfly_eq wr wi m m' i j h
  exact Memory.wf_write _ _ _ _ _ hi (Memory.wf_write _ _ _ _ _ hi
    (Memory.wf_write _ _ _ _ _ hj (Memory.wf_write _ _ _ _ _ hj hm)))

/-- The indices of a butterfly of R214 lie inside the arrays. -/
theorem butterfly_index_lt (n l k b : Nat) (hk : k < l) (hb : b < n / (2 * l)) :
    k + b * (2 * l) + l < n := by
  have h1 : (b + 1) * (2 * l) ≤ n := (Nat.le_div_iff_mul_le (by omega)).1 hb
  have h2 : (b + 1) * (2 * l) = b * (2 * l) + 2 * l := by ring
  omega

theorem fftPass_wf (n l : Nat) (m m' : Memory) (h : fftPass n l m = some m') (hm : m.wf n) : m'.wf n := by
  refine foldlM_keeps (fun m => m.wf n) _ _ (fun m1 m2 k hk h1 hm1 => ?_) m m' h hm
  refine foldlM_keeps (fun m => m.wf n) _ _ (fun m3 m4 b hb h3 hm3 => ?_) m1 m2 h1 hm1
  have hlt := butterfly_index_lt n l k b (List.mem_range.1 hk) (List.mem_range.1 hb)
  exact butterfly_wf n _ _ m3 m4 _ _ (by omega) hlt h3 hm3

theorem fftRun_wf (n : Nat) (m m' : Memory) (h : fftRun n m = some m') (hm : m.wf n) : m'.wf n := by
  unfold fftRun at h
  split at h
  · next m1 h1 =>
    exact foldlM_keeps (fun m => m.wf n) _ _ (fun m2 m3 k _ h2 hm2 => fftPass_wf n _ m2 m3 h2 hm2)
      m1 m' h (bitrevAll_wf n m m1 h1 hm)
  · cases h

theorem storeSample_wf (s : State) (opa : Word) (hp : s.cap.wrPtr.toNat < s.cfg.n) (hm : s.mem.wf s.cfg.n) :
    (s.storeSample opa).mem.wf s.cfg.n :=
  Memory.wf_write _ _ _ _ _ hp hm

end Sys2Proof.Machine
end

