-- ==== Sys2Proof/Laws/Kernel.lean ====
section
/-! SUPPORT. The arithmetic kernel read as integer arithmetic (`spec/40_fixed_point.md` R110, R118). -/

namespace Sys2Proof.Machine

@[simp] theorem wrap32_toInt (z : Int) : (wrap32 z).toInt = z.bmod (2 ^ 32) := by
  simp [wrap32, BitVec.toInt_ofInt]

/-- A value of an `i32` is not changed by `wrap32`. -/
@[simp] theorem wrap32_of_toInt (a : Word) : wrap32 a.toInt = a := by simp [wrap32]

theorem toInt_range (a : Word) : -2 ^ 31 ≤ a.toInt ∧ a.toInt ≤ 2 ^ 31 - 1 := by
  have h1 := BitVec.le_toInt a
  have h2 := BitVec.toInt_lt (x := a)
  simp only [Nat.reduceSub] at h1 h2
  omega

/-- R118: `add32` is the addition of words. -/
theorem add32_eq (a b : Word) : add32 a b = a + b := by
  apply BitVec.eq_of_toInt_eq
  simp [add32, BitVec.toInt_add]

/-- R118: `sub32` is the subtraction of words. -/
theorem sub32_eq (a b : Word) : sub32 a b = a - b := by
  apply BitVec.eq_of_toInt_eq
  simp [sub32, BitVec.toInt_sub]

/-- R118: `neg32` is the negation of words. -/
theorem neg32_eq (a : Word) : neg32 a = -a := by
  apply BitVec.eq_of_toInt_eq
  simp [neg32, BitVec.toInt_neg]

theorem mul_comm32 (a b : Word) : mul a b = mul b a := by simp [mul, Int.mul_comm]

/-- R131, R134: the index port of a table of `n` entries, `n` a power of two, takes the operand modulo
`n`. -/
theorem tableIndex_pow2 (n : Nat) (a : Word) (h : isPow2 n = true) : tableIndex n a = a.toNat % n := by
  have hn : n = 2 ^ n.log2 := by simpa [isPow2] using h
  unfold tableIndex
  rw [← hn]

end Sys2Proof.Machine
end

