-- ==== Sys2Proof/Laws/PerInstr.lean ====
section
/-! SUPPORT. A family of statements about each instruction as syntax: its command word has `cmd[7:1]` = 0
(`spec/30_encoding.md` R91). -/

namespace Sys2Proof.Laws.ReservedZero

/-- R91: the reserved bits of the command word of `i` are zero. -/
def Statement (i : Instr) : Prop := cmdZero (encodeCmd i) = 0

theorem fxFromInt (opa : Word) : Statement (.fxFromInt opa) := by show cmdZero 0x1000 = 0; decide
theorem fxFromFloat (opa : Word) : Statement (.fxFromFloat opa) := by show cmdZero 0x1100 = 0; decide
theorem fxToFloat (opa : Word) : Statement (.fxToFloat opa) := by show cmdZero 0x1200 = 0; decide
theorem fxToInt (opa : Word) : Statement (.fxToInt opa) := by show cmdZero 0x1300 = 0; decide
theorem fxMul (opa opb : Word) : Statement (.fxMul opa opb) := by show cmdZero 0x1400 = 0; decide
theorem fxDiv (opa opb : Word) : Statement (.fxDiv opa opb) := by show cmdZero 0x1500 = 0; decide
theorem fxAbs (opa : Word) : Statement (.fxAbs opa) := by show cmdZero 0x1600 = 0; decide
theorem sinDds (opa : Word) : Statement (.sinDds opa) := by show cmdZero 0x2000 = 0; decide
theorem sinFft (opa : Word) : Statement (.sinFft opa) := by show cmdZero 0x2100 = 0; decide
theorem cosFft (opa : Word) : Statement (.cosFft opa) := by show cmdZero 0x2200 = 0; decide
theorem hannRd (opa : Word) : Statement (.hannRd opa) := by show cmdZero 0x3000 = 0; decide
theorem ddsTick (c : CoreId) : Statement (.ddsTick c) := by unfold Statement; cases c <;> decide
theorem ddsSample (c : CoreId) : Statement (.ddsSample c) := by unfold Statement; cases c <;> decide
theorem dacPush (c : CoreId) : Statement (.dacPush c) := by unfold Statement; cases c <;> decide
theorem envStep (c : CoreId) : Statement (.envStep c) := by unfold Statement; cases c <;> decide
theorem acqPush (opa : Word) : Statement (.acqPush opa) := by show cmdZero 0x6000 = 0; decide
theorem capWait : Statement .capWait := by show cmdZero 0x6100 = 0; decide
theorem capRearm : Statement .capRearm := by show cmdZero 0x6200 = 0; decide
theorem winLoad : Statement .winLoad := by show cmdZero 0x6300 = 0; decide
theorem fftBitrev : Statement .fftBitrev := by show cmdZero 0x7000 = 0; decide
theorem fftPass (opa : Word) : Statement (.fftPass opa) := by show cmdZero 0x7100 = 0; decide
theorem fftRun : Statement .fftRun := by show cmdZero 0x7200 = 0; decide
theorem mag (opa opb : Word) : Statement (.mag opa opb) := by show cmdZero 0x8000 = 0; decide
theorem peakScan : Statement .peakScan := by show cmdZero 0x8100 = 0; decide
theorem pubFreq : Statement .pubFreq := by show cmdZero 0x8200 = 0; decide
theorem pubCntLd : Statement .pubCntLd := by show cmdZero 0x8300 = 0; decide
theorem pubCntSt : Statement .pubCntSt := by show cmdZero 0x8400 = 0; decide
theorem semWait (c : CoreId) : Statement (.semWait c) := by unfold Statement; cases c <;> decide
theorem semSignal (c : CoreId) : Statement (.semSignal c) := by unfold Statement; cases c <;> decide
theorem hbCount (c : CoreId) : Statement (.hbCount c) := by unfold Statement; cases c <;> decide
theorem hbRdFreq (c : CoreId) : Statement (.hbRdFreq c) := by unfold Statement; cases c <;> decide
theorem hbRdFft (c : CoreId) : Statement (.hbRdFft c) := by unfold Statement; cases c <;> decide
theorem hbEmit (c : CoreId) : Statement (.hbEmit c) := by unfold Statement; cases c <;> decide
theorem hbClear (c : CoreId) : Statement (.hbClear c) := by unfold Statement; cases c <;> decide
theorem hbSleep (c : CoreId) : Statement (.hbSleep c) := by unfold Statement; cases c <;> decide
theorem sleepExpire (c : CoreId) : Statement (.sleepExpire c) := by unfold Statement; cases c <;> decide

end Sys2Proof.Laws.ReservedZero
end

