-- ==== Sys2Proof/Laws/Reset.lean ====
section
/-! SUPPORT. What each step of initialisation writes, and the initialisation by cases (`Machine/Reset.lean`). -/

namespace Sys2Proof.Machine

@[simp] theorem State.sampleConfig_cfg (s : State) (g : Cfg) : (s.sampleConfig g).cfg = g := rfl
@[simp] theorem State.sampleConfig_runState (s : State) (g : Cfg) : (s.sampleConfig g).runState = s.runState := rfl
@[simp] theorem State.sampleConfig_synth (s : State) (g : Cfg) : (s.sampleConfig g).synth = s.synth := rfl
@[simp] theorem State.sampleConfig_cap (s : State) (g : Cfg) : (s.sampleConfig g).cap = s.cap := rfl
@[simp] theorem State.sampleConfig_mem (s : State) (g : Cfg) : (s.sampleConfig g).mem = s.mem := rfl

@[simp] theorem State.halt_cfg (s : State) (k : Status) : (s.halt k).cfg = s.cfg := rfl
@[simp] theorem State.halt_runState (s : State) (k : Status) : (s.halt k).runState = .halted := rfl
@[simp] theorem State.halt_synth (s : State) (k : Status) : (s.halt k).synth = s.synth := rfl
@[simp] theorem State.halt_cap (s : State) (k : Status) : (s.halt k).cap = s.cap := rfl
@[simp] theorem State.halt_mem (s : State) (k : Status) : (s.halt k).mem = s.mem := rfl
@[simp] theorem State.halt_inbox (s : State) (k : Status) : (s.halt k).inbox = s.inbox := rfl

@[simp] theorem State.setRegisters_cfg (s : State) : s.setRegisters.cfg = s.cfg := rfl
@[simp] theorem State.setRegisters_mem (s : State) : s.setRegisters.mem = s.mem := rfl
@[simp] theorem State.setRegisters_inbox (s : State) : s.setRegisters.inbox = s.inbox := rfl
@[simp] theorem State.setRegisters_attackInc (s : State) : s.setRegisters.attackInc = s.attackInc := rfl
@[simp] theorem State.setRegisters_decayInc (s : State) : s.setRegisters.decayInc = s.decayInc := rfl

@[simp] theorem State.start_cfg (s : State) : s.start.cfg = s.cfg := rfl
@[simp] theorem State.start_runState (s : State) : s.start.runState = .running := rfl
@[simp] theorem State.start_mem (s : State) : s.start.mem = s.mem := rfl
@[simp] theorem State.start_inbox (s : State) : s.start.inbox = s.inbox := rfl

/-- Initialisation ends in one of three ways. -/
theorem State.initialise_cases (s : State) (g : Cfg) :
    (configError g = true ∧ s.initialise g = (s.sampleConfig g).halt .cfgerr)
      ∨ (configError g = false ∧ zeroRamp g = true ∧ s.initialise g = (s.sampleConfig g).halt .div0)
      ∨ (configError g = false ∧ zeroRamp g = false
        ∧ s.initialise g = (s.sampleConfig g).setIncrements.setRegisters.start) := by
  have he : s.initialise g =
      if configError g then (s.sampleConfig g).halt .cfgerr
      else if zeroRamp g then (s.sampleConfig g).halt .div0
      else (s.sampleConfig g).setIncrements.setRegisters.start := rfl
  rw [he]
  by_cases hc : configError g = true
  · exact .inl ⟨hc, if_pos hc⟩
  · rw [if_neg hc]
    refine .inr ?_
    by_cases hz : zeroRamp g = true
    · exact .inl ⟨Bool.eq_false_iff.mpr hc, hz, if_pos hz⟩
    · exact .inr ⟨Bool.eq_false_iff.mpr hc, Bool.eq_false_iff.mpr hz, if_neg hz⟩

/-- `rst` = 1 twice is `rst` = 1. -/
@[simp] theorem State.holdReset_holdReset (s : State) : s.holdReset.holdReset = s.holdReset := rfl

end Sys2Proof.Machine
end

