-- ==== Sys2Proof/Tests/Slice0.lean ====
section
/-! SUPPORT. The author's own tests: the words of the encoding, the well-formedness checks, a few vectors of
`spec/95_test_vectors.md` and of the rules' examples, and for each statement with hypotheses a state that
meets them. -/

namespace Sys2Proof.Tests

open Sys2Proof.Machine

/-! ### Decoding: the words of `spec/30_encoding.md` R92, written out -/

/-- `w` decodes to `i`. -/
def reads (w : BitVec 16) (a b : Word) (i : Instr) : Bool :=
  match decode ⟨w, a, b⟩ with
  | .ok j => j == i
  | .error _ => false

theorem test_decode_fxFromInt : reads 0b0001000000000000 3 0 (.fxFromInt 3) = true := by decide
theorem test_decode_fxFromFloat : reads 0b0001000100000000 3 0 (.fxFromFloat 3) = true := by decide
theorem test_decode_fxToFloat : reads 0b0001001000000000 3 0 (.fxToFloat 3) = true := by decide
theorem test_decode_fxToInt : reads 0b0001001100000000 3 0 (.fxToInt 3) = true := by decide
theorem test_decode_fxMul : reads 0b0001010000000000 3 5 (.fxMul 3 5) = true := by decide
theorem test_decode_fxDiv : reads 0b0001010100000000 3 5 (.fxDiv 3 5) = true := by decide
theorem test_decode_fxAbs : reads 0b0001011000000000 3 0 (.fxAbs 3) = true := by decide
theorem test_decode_sinDds : reads 0b0010000000000000 3 0 (.sinDds 3) = true := by decide
theorem test_decode_sinFft : reads 0b0010000100000000 3 0 (.sinFft 3) = true := by decide
theorem test_decode_cosFft : reads 0b0010001000000000 3 0 (.cosFft 3) = true := by decide
theorem test_decode_hannRd : reads 0b0011000000000000 3 0 (.hannRd 3) = true := by decide
theorem test_decode_ddsTick : reads 0b0100000000000001 0 0 (.ddsTick .c1) = true := by decide
theorem test_decode_ddsSample : reads 0b0100000100000000 0 0 (.ddsSample .c0) = true := by decide
theorem test_decode_dacPush : reads 0b0100001000000001 0 0 (.dacPush .c1) = true := by decide
theorem test_decode_envStep : reads 0b0101000000000001 0 0 (.envStep .c1) = true := by decide
theorem test_decode_acqPush : reads 0b0110000000000000 7 0 (.acqPush 7) = true := by decide
theorem test_decode_capWait : reads 0b0110000100000000 0 0 .capWait = true := by decide
theorem test_decode_capRearm : reads 0b0110001000000000 0 0 .capRearm = true := by decide
theorem test_decode_winLoad : reads 0b0110001100000000 0 0 .winLoad = true := by decide
theorem test_decode_fftBitrev : reads 0b0111000000000000 0 0 .fftBitrev = true := by decide
theorem test_decode_fftPass : reads 0b0111000100000000 4 0 (.fftPass 4) = true := by decide
theorem test_decode_fftRun : reads 0b0111001000000000 0 0 .fftRun = true := by decide
theorem test_decode_mag : reads 0b1000000000000000 3 5 (.mag 3 5) = true := by decide
theorem test_decode_peakScan : reads 0b1000000100000000 0 0 .peakScan = true := by decide
theorem test_decode_pubFreq : reads 0b1000001000000000 0 0 .pubFreq = true := by decide
theorem test_decode_pubCntLd : reads 0b1000001100000000 0 0 .pubCntLd = true := by decide
theorem test_decode_pubCntSt : reads 0b1000010000000000 0 0 .pubCntSt = true := by decide
theorem test_decode_semWait : reads 0b1001000000000001 0 0 (.semWait .c1) = true := by decide
theorem test_decode_semSignal : reads 0b1001000100000000 0 0 (.semSignal .c0) = true := by decide
theorem test_decode_hbCount : reads 0b1001001000000001 0 0 (.hbCount .c1) = true := by decide
theorem test_decode_hbRdFreq : reads 0b1001001100000000 0 0 (.hbRdFreq .c0) = true := by decide
theorem test_decode_hbRdFft : reads 0b1001010000000001 0 0 (.hbRdFft .c1) = true := by decide
theorem test_decode_hbEmit : reads 0b1001010100000000 0 0 (.hbEmit .c0) = true := by decide
theorem test_decode_hbClear : reads 0b1001011000000001 0 0 (.hbClear .c1) = true := by decide
theorem test_decode_hbSleep : reads 0b1001011100000000 0 0 (.hbSleep .c0) = true := by decide
theorem test_decode_sleepExpire : reads 0b1001100000000001 0 0 (.sleepExpire .c1) = true := by decide

/-- Why `w` names no operation. -/
def refusedFor (w : BitVec 16) : Option BadCommand :=
  match decode ⟨w, 0, 0⟩ with
  | .ok _ => none
  | .error e => some e

/-- R100 and the illegal words of `spec/95_test_vectors.md` section 2.14. -/
theorem test_illegal_words :
    refusedFor 0x0000 = some .reservedUnit ∧ refusedFor 0xA000 = some .reservedUnit
      ∧ refusedFor 0x1700 = some .unlistedOp ∧ refusedFor 0x9900 = some .unlistedOp
      ∧ refusedFor 0x1002 = some .reservedBits ∧ refusedFor 0x4080 = some .reservedBits
      ∧ refusedFor 0x6001 = some .coreBit ∧ refusedFor 0x8101 = some .coreBit := by decide

/-- The bits of `opa` and `opb` in the numbering of log 1, and the bits above `nbits` read as 0. -/
theorem test_decodeTableWord :
    decodeTableWord 80 (0x1400 + 3 * 2 ^ 16 + 5 * 2 ^ 48) = some (.fxMul 3 5)
      ∧ decodeTableWord 16 (0x1400 + 3 * 2 ^ 16) = some (.fxMul 0 0)
      ∧ decodeTableWord 16 0x9701 = some (.hbSleep .c1) ∧ decodeTableWord 16 0x9702 = none := by decide

/-- R92: 49 command words are legal. -/
theorem test_legalWords_length : legalWords.length = 49 := by decide

/-! ### WellFormed: an ill-formed term for each check (R214) -/

theorem test_wellFormed_pass_zero : Instr.wellFormed 8 (.fftPass 0) = false := by decide
theorem test_wellFormed_pass_not_pow2 : Instr.wellFormed 8 (.fftPass 3) = false := by decide
theorem test_wellFormed_pass_n : Instr.wellFormed 8 (.fftPass 8) = false := by decide
theorem test_wellFormed_pass_half : Instr.wellFormed 8 (.fftPass 4) = true := by decide

/-! ### States to test on -/

/-- The block after reset with `N` = `n`, serving a request of the agent `a`. -/
def base (n : Nat) (a : Agent) : State :=
  { State.reset with cfg := { Cfg.default with n := n }, agent := a }

/-- A store whose elements from 0 on are `vs`. -/
def elems (vs : List Word) : Store := (List.range vs.length).zip vs

/-- What is answered to `i` on `s` made ready for it. -/
def answer (s : State) (i : Instr) : Option Reply :=
  match exec i { s with agent := i.issuer } with
  | .next t => t.reply
  | .fault _ => none
  | .refused _ => none

/-- A property of the state after `i` on `s` made ready for it. -/
def after (s : State) (i : Instr) (p : State → Bool) : Bool :=
  match exec i { s with agent := i.issuer } with
  | .next t => p t
  | .fault _ => false
  | .refused _ => false

/-! ### Unit 1 (the examples and corner cases of R111 to R117) -/

theorem test_fxFromInt : answer State.reset (.fxFromInt 3) = some ⟨0x00018000, .ok⟩ := by decide
theorem test_fxFromInt_wraps : answer State.reset (.fxFromInt 65536) = some ⟨0x80000000, .ok⟩ := by decide
theorem test_fxFromFloat : answer State.reset (.fxFromFloat 0x3ECCCCCD) = some ⟨0x00003333, .ok⟩ := by decide
theorem test_fxFromFloat_negative :
    answer State.reset (.fxFromFloat 0xBECCCCCD) = some ⟨0xFFFFCCCD, .ok⟩ := by decide
theorem test_fxToFloat : answer State.reset (.fxToFloat 0x0000C000) = some ⟨0x3FC00000, .ok⟩ := by decide
theorem test_fxToFloat_tie : answer State.reset (.fxToFloat 0x7FFFFFC0) = some ⟨0x47800000, .ok⟩ := by decide
theorem test_fxToInt : answer State.reset (.fxToInt 0x03A90AD0) = some ⟨0x00000752, .ok⟩ := by decide
theorem test_fxToInt_floor : answer State.reset (.fxToInt 0xFFFFC000) = some ⟨0xFFFFFFFF, .ok⟩ := by decide
theorem test_fxMul_floor : answer State.reset (.fxMul 0xFFFFFFFD 16384) = some ⟨0xFFFFFFFE, .ok⟩ := by decide
theorem test_fxMul_wraps :
    answer State.reset (.fxMul 0x00800000 0x00800000) = some ⟨0x80000000, .ok⟩ := by decide
theorem test_fxDiv_truncates : answer State.reset (.fxDiv 0xFFFF8000 0x00018000) = some ⟨-10922, .ok⟩ := by decide
theorem test_fxDiv_zero :
    after State.reset (.fxDiv 5 0) (fun t => t.reply == some ⟨0, .div0⟩ && t.status == 0b0001 && t.lastCause == 1)
      = true := by decide
theorem test_fxAbs : answer State.reset (.fxAbs 0xFFFFFFFB) = some ⟨5, .ok⟩ := by decide
theorem test_fxAbs_most_negative :
    answer State.reset (.fxAbs 0x80000000) = some ⟨0x80000000, .ok⟩ := by decide

/-! ### Units 2 and 3 (the examples of R136 to R139, R135) -/

theorem test_sinDds : answer State.reset (.sinDds (256 + 64)) = some ⟨0x00008000, .ok⟩ := by decide
theorem test_sinFft : answer State.reset (.sinFft 1) = some ⟨201, .ok⟩ := by decide
theorem test_cosFft_wraps : answer State.reset (.cosFft 768) = some ⟨0, .ok⟩ := by decide
theorem test_cosFft_zero : answer State.reset (.cosFft 0) = some ⟨0x00008000, .ok⟩ := by decide
theorem test_hannRd : answer State.reset (.hannRd 256) = some ⟨16384, .ok⟩ := by decide

/-! ### Units 4 and 5 (the examples of R165, R170, R175, R178) -/

theorem test_ddsSample :
    after { State.reset with synth := ⟨⟨.active, 3000, 30000, 0x028F50E8 - 42949672, 42949672, 0⟩, default⟩ }
      (.ddsSample .c0) (fun t => t.synth.at0.phaseAcc == 0x028F50E8 && t.synth.at0.dacOut == 2139) = true := by
  decide
theorem test_envStep_into_silent :
    after { State.reset with synth := ⟨⟨.active, 15999, 20, 0, 0, 0⟩, default⟩ } (.envStep .c0)
      (fun t => t.synth.at0 == ⟨.silent, 0, 0, 0, 0, 0⟩) = true := by decide
theorem test_envStep_first_attack :
    after State.reset (.envStep .c1) (fun t => t.synth.at1.envAmp == 10 && t.synth.at1.envElapsed == 1)
      = true := by decide
theorem test_dacPush :
    after { State.reset with synth := ⟨⟨.active, 0, 0, 0, 0, 2139⟩, default⟩ } (.dacPush .c0)
      (fun t => t.emitted == [.dac 0xB85B] && t.reply == some ⟨0xB85B, .ok⟩) = true := by decide
theorem test_ddsTick_first :
    after State.reset (.ddsTick .c0)
      (fun t => t.emitted == [.dac 0xB800] && t.synth.at0.envAmp == 10) = true := by decide

/-! ### Unit 6 (the examples of R191, R193, R194, R196) -/

theorem test_acqPush_last :
    after { base 8 .acq with cap := ⟨.buf0, .buf1, 7, true, false⟩ } (.acqPush 0x1FF)
      (fun t => t.mem.buf0 == [(7, 0xFF)] && t.cap == ⟨.buf0, .buf1, 8, false, true⟩) = true := by decide
theorem test_acqPush_dropped :
    after { base 8 .acq with cap := ⟨.buf0, .buf1, 8, false, true⟩ } (.acqPush 5)
      (fun t => t.mem == Memory.empty && t.cap == ⟨.buf0, .buf1, 8, false, true⟩ && t.reply == some ⟨0, .ok⟩)
      = true := by decide
theorem test_capWait_not_ready :
    after { State.reset with coreOwner := ⟨.ct, .none⟩ } .capWait
      (fun t => t.reply == some ⟨0, .notReady⟩ && t.coreOwner == ⟨.none, .none⟩ && t.status == 0) = true := by
  decide
theorem test_capRearm :
    after { base 8 .ct with cap := ⟨.buf0, .buf1, 8, false, true⟩ } .capRearm
      (fun t => t.cap == ⟨.buf1, .buf0, 0, true, false⟩ && t.coreOwner.at0 == .ct) = true := by decide
theorem test_winLoad :
    after { base 8 .ct with mem := { Memory.empty with buf1 := elems (List.replicate 8 200) } } .winLoad
      (fun t => t.mem.re == elems [0, 959600, 3276800, 5593800, 6553600, 5593800, 3276800, 959600]
        && t.mem.im == elems (List.replicate 8 0)) = true := by decide +kernel
theorem test_winLoad_unwritten :
    exec .winLoad (base 8 .ct) = .fault .readUnwritten := by rfl

/-! ### Unit 7 (the examples of R212, R214, R217) -/

theorem test_fftBitrev :
    after { base 8 .ct with mem := ⟨[], [], elems [0, 1, 2, 3, 4, 5, 6, 7], elems (List.replicate 8 0)⟩ }
      .fftBitrev (fun t => t.mem.re == elems [0, 4, 2, 6, 1, 5, 3, 7]) = true := by decide +kernel
theorem test_fftPass :
    after { base 8 .ct with mem := ⟨[], [], elems [-1, 1, 0, 0, 0, 0, 0, 0], elems [1, 3, 0, 0, 0, 0, 0, 0]⟩ }
      (.fftPass 1) (fun t => t.mem.re == elems [-1, -1, 0, 0, 0, 0, 0, 0]
        && t.mem.im == elems [1, -1, 0, 0, 0, 0, 0, 0]) = true := by decide +kernel
theorem test_fftRun :
    after { base 8 .ct with
        mem := ⟨[], [], elems [0, 0x40000, 0, 0, 0, 0, 0, 0], elems (List.replicate 8 0)⟩ } .fftRun
      (fun t => t.mem.re == elems [32768, 23170, 0, -23170, -32768, -23170, 0, 23170]
        && t.mem.im == elems [0, -23170, -32768, -23170, 0, 23170, 32768, 23170]) = true := by decide +kernel

/-! ### Unit 8 (the examples of R231, R232, R235, R236, R237) -/

theorem test_mag : answer State.reset (.mag 0x00018000 0xFFFE0000) = some ⟨170393, .ok⟩ := by decide
theorem test_mag_wraps : answer State.reset (.mag 0x7FFFFFFF 0x7FFFFFFF) = some ⟨0xB332FFFE, .ok⟩ := by decide
theorem test_peakScan_first_of_equals :
    after { base 16 .ct with
        mem := ⟨[], [], elems [900, 1, 1, 1, 800, 5, 9, 9], elems (List.replicate 8 0)⟩ } .peakScan
      (fun t => t.cons.maxMag == 9 && t.cons.maxIdx == 6 && t.reply == some ⟨6, .ok⟩) = true := by decide
theorem test_pubFreq :
    after { State.reset with cons := ⟨0, 511, 0, 5⟩ } .pubFreq (fun t => t.tele.maxFrequency == 0x459BF1E0)
      = true := by decide
theorem test_pubCntLd :
    after { State.reset with tele := ⟨0, 4, 0⟩ } .pubCntLd (fun t => t.cons.cntTmp == 4) = true := by decide
theorem test_pubCntSt_wraps :
    after { State.reset with cons := ⟨0, 0, 0xFFFFFFFF, 7⟩ } .pubCntSt (fun t => t.tele.fftCount == 0) = true := by
  decide

/-! ### Unit 9 (`spec/95_test_vectors.md` section 2.13) -/

theorem test_semWait :
    after State.reset (.semWait .c0) (fun t => t.go == ⟨false, false⟩ && t.reply == some ⟨0, .ok⟩) = true := by
  decide
theorem test_semWait_not_ready :
    after State.reset (.semWait .c1) (fun t => t.go == ⟨true, false⟩ && t.reply == some ⟨0, .notReady⟩) = true := by
  decide
theorem test_semSignal :
    after { State.reset with go := ⟨false, false⟩ } (.semSignal .c0) (fun t => t.go == ⟨false, true⟩) = true := by
  decide
theorem test_hbCount :
    after { State.reset with tele := ⟨0, 0, 41⟩ } (.hbCount .c1)
      (fun t => t.tele.pingPong == 42 && t.heart.at1.rptCnt == 42 && t.reply == some ⟨42, .ok⟩) = true := by decide
theorem test_hbRdFreq :
    after { State.reset with tele := ⟨0x456A6000, 9, 0⟩ } (.hbRdFreq .c1)
      (fun t => t.heart.at1.rptFreq == 0x456A6000) = true := by decide
theorem test_hbRdFft :
    after { State.reset with tele := ⟨0x456A6000, 9, 0⟩ } (.hbRdFft .c1) (fun t => t.heart.at1.rptFft == 9)
      = true := by decide
theorem test_hbEmit :
    after { State.reset with conReady := true, heart := ⟨default, ⟨4, .idle, 42, 0x456A6000, 9⟩⟩ } (.hbEmit .c1)
      (fun t => t.emitted == [.con .c1 42 0x456A6000 9]) = true := by decide
theorem test_hbEmit_unavailable :
    after State.reset (.hbEmit .c1) (fun t => t.emitted == [] && t.reply == some ⟨0, .periph⟩
      && t.status == 0b0100 && t.lastCause == 3 && t.coreOwner.at1 == .hb) = true := by decide
theorem test_hbClear :
    after { State.reset with tele := ⟨0, 9, 0⟩ } (.hbClear .c0) (fun t => t.tele.fftCount == 0) = true := by decide
theorem test_hbSleep_starts :
    after State.reset (.hbSleep .c0)
      (fun t => t.sleepReq .c0 && t.reply == some ⟨0, .notReady⟩) = true := by decide
theorem test_hbSleep_ends :
    after { State.reset with heart := ⟨⟨6, .expired, 0, 0, 0⟩, default⟩ } (.hbSleep .c0)
      (fun t => t.heart.at0.sleepState == .idle && t.reply == some ⟨0, .ok⟩) = true := by decide
theorem test_sleepExpire :
    after { State.reset with heart := ⟨⟨6, .counting, 0, 0, 0⟩, default⟩ } (.sleepExpire .c0)
      (fun t => t.heart.at0.sleepState == .expired) = true := by decide

/-! ### Reset (the reset table of `spec/95_test_vectors.md`) -/

theorem test_initialise_bad_n :
    (State.reset.holdReset.initialise { Cfg.default with n := 12 }).runState = .halted
      ∧ (State.reset.holdReset.initialise { Cfg.default with n := 12 }).lastCause = 2 := ⟨rfl, rfl⟩
theorem test_initialise_zero_ramp :
    (State.reset.holdReset.initialise { Cfg.default with attackTime := 0 }).runState = .halted
      ∧ (State.reset.holdReset.initialise { Cfg.default with attackTime := 0 }).status = 0b0001 := ⟨rfl, rfl⟩

/-- R328: a halt leaves every register as `rst` = 1 held it, `PHASE_INC` among them. -/
theorem test_initialise_halt_keeps :
    (State.reset.holdReset.initialise { Cfg.default with n := 12 }).synth = State.reset.holdReset.synth
      ∧ (State.reset.holdReset.initialise { Cfg.default with attackTime := 0 }).synth
        = State.reset.holdReset.synth := ⟨rfl, rfl⟩

/-! ### Requests placed by `withFetchWord` -/

theorem test_withFetchWord :
    (match step (State.reset.withFetchWord 80 (0x1400 + 0x18000 * 2 ^ 16 + 0x10000 * 2 ^ 48)) with
      | .next t => t.reply == some ⟨0x30000, .ok⟩
      | _ => false) = true := by decide

/-! ### Witnesses: a state that meets the hypotheses of each statement -/

theorem test_witness_ConversionsAndAbs :
    (base 4 .host).readyFor (.fxFromInt 3)
      ∧ (base 4 .host).readyFor (.fxToInt 3)
      ∧ (base 4 .host).readyFor (.fxAbs (-3)) := ⟨⟨rfl, rfl⟩, ⟨rfl, rfl⟩, ⟨rfl, rfl⟩⟩

theorem test_witness_MulWraps :
    (base 4 .host).readyFor (.fxMul 0x00800000 0x00800000) := ⟨rfl, rfl⟩

theorem test_witness_ToFloatIsNearestEven :
    (base 4 .host).readyFor (.fxToFloat 0x7FFFFFC0)
      ∧ (base 4 .host).readyFor (.fxToFloat 0) := ⟨⟨rfl, rfl⟩, ⟨rfl, rfl⟩⟩

theorem test_witness_DdsSampleResult :
    (base 4 (.timer .c1)).readyFor (.ddsSample .c1) := ⟨rfl, rfl⟩

theorem test_witness_TickIsItsParts :
    (base 4 (.timer .c0)).readyFor (.ddsTick .c0) := ⟨rfl, rfl⟩

theorem test_witness_MagResult :
    (base 4 .host).readyFor (.mag 0x80000000 0) := ⟨rfl, rfl⟩

theorem test_witness_PubCntLdResult :
    (base 4 .ct).readyFor .pubCntLd := ⟨rfl, rfl⟩

theorem test_witness_PubCntStResult :
    (base 4 .ct).readyFor .pubCntSt := ⟨rfl, rfl⟩

theorem test_witness_SemSignalResult :
    (base 4 (.hb .c0)).readyFor (.semSignal .c0) := ⟨rfl, rfl⟩

theorem test_witness_HbCountResult :
    (base 4 (.hb .c1)).readyFor (.hbCount .c1) := ⟨rfl, rfl⟩

theorem test_witness_HbReadsLatchTelemetry :
    (base 4 (.hb .c1)).readyFor (.hbRdFreq .c1)
      ∧ (base 4 (.hb .c1)).readyFor (.hbRdFft .c1) := ⟨⟨rfl, rfl⟩, ⟨rfl, rfl⟩⟩

theorem test_witness_HbClearResult :
    (base 4 (.hb .c0)).readyFor (.hbClear .c0) := ⟨rfl, rfl⟩

/-- Every operation is accepted in some state, here with `N` = 4. -/
theorem test_witness_readyFor (i : Instr) : (base 4 i.issuer).readyFor i := ⟨rfl, rfl⟩

/-- Any value on a port the row does not list. -/
theorem test_witness_LegalWordsAreTheListed :
    decode ⟨0x7100, 4, 9⟩ = .ok (.fftPass 4) ∧ (0x7100 : BitVec 16) = (encode (.fftPass 4)).cmd
      ∧ (4 : Word) = (encode (.fftPass 4)).opa ∧ portsListed (.fftPass 4) = (true, false)
      ∧ decode ⟨0x9801, 5, 6⟩ = .ok (.sleepExpire .c1) := ⟨rfl, rfl, rfl, rfl, rfl⟩

theorem test_witness_StepServesRequest :
    ({ base 4 .host with inbox := [.request .host ⟨0x1400, 3, 5⟩ true] } : State).inbox
        = .request .host ⟨0x1400, 3, 5⟩ true :: [] ∧ decode ⟨0x1400, 3, 5⟩ = .ok (.fxMul 3 5) := ⟨rfl, rfl⟩

/-- `base 4` with one event waiting. -/
def awaiting (e : Event) : State := { base 4 .host with inbox := [e] }

/-- Both the OK and the NOTREADY side, and a task that is not enabled. -/
theorem test_witness_StepRunsTask :
    (awaiting (.task (.hb .c0) true)).inbox = .task (.hb .c0) true :: []
      ∧ (awaiting (.task .ct true)).inbox = .task .ct true :: []
      ∧ (awaiting (.task .ct true)).runState = .running
      ∧ (awaiting (.task .ct true)).coreOwner = ⟨.none, .none⟩
      ∧ answer (awaiting (.task (.hb .c0) true)) (heartbeatProgram .c0 0) = some ⟨0, .ok⟩
      ∧ answer (awaiting (.task .ct true)) (consumerProgram 0) = some ⟨0, .notReady⟩
      ∧ ({ awaiting (.task (.hb .c0) true) with coreOwner := ⟨.ct, .none⟩ } : State).coreOwner.get .c0 = .ct := by
  decide

/-- The wrap of a sequencer position: a heartbeat at 7 goes to 0. -/
theorem test_position_wraps :
    (match step { base 4 .host with go := ⟨false, false⟩, heart := ⟨⟨7, .idle, 1, 0, 0⟩, default⟩, inbox := [.task (.hb .c0) true] } with
      | .next t => t.heart.at0.hbPc == 0 && t.go == ⟨false, true⟩
      | _ => false) = true := by decide

theorem test_witness_StoppedBlockAnswersNotRunning :
    ({ awaiting (.request .host ⟨0, 0, 0⟩ true) with runState := .halted } : State).runState ≠ .running
      ∧ ({ awaiting (.request .host ⟨0, 0, 0⟩ true) with runState := .halted } : State).inbox
        = .request .host ⟨0, 0, 0⟩ true :: []
      ∧ ({ awaiting (.task .ct true) with runState := .init } : State).runState ≠ .running
      ∧ ({ awaiting (.task .ct true) with runState := .init } : State).inbox = .task .ct true :: [] := by decide

theorem test_witness_IllegalRequestIsRecordedOnly :
    (awaiting (.request .host ⟨0xA000, 0, 0⟩ true)).runState = .running
      ∧ (awaiting (.request .host ⟨0xA000, 0, 0⟩ true)).inbox = .request .host ⟨0xA000, 0, 0⟩ true :: []
      ∧ (0xA000 : BitVec 16) ∉ legalWords
      ∧ (decode ⟨0x4000, 0, 0⟩ = .ok (.ddsTick .c0) ∧ Agent.host ≠ (Instr.ddsTick .c0).issuer)
      ∧ (decode ⟨0x7100, 4, 0⟩ = .ok (.fftPass 4)
          ∧ ¬ ∃ k, (4 : Word).toNat = 2 ^ k ∧ (4 : Word).toNat ≤ (base 4 .host).cfg.n / 2) := by
  refine ⟨rfl, rfl, by decide, ⟨rfl, by decide⟩, rfl, ?_⟩
  rintro ⟨k, _, h⟩
  exact absurd h (by decide)

/-- One operation of each kind of answer. -/
theorem test_witness_AnswersAndErrors :
    (answer State.reset (.fxDiv 1 1)).map Reply.st = some .ok
      ∧ (answer State.reset (.fxDiv 1 0)).map Reply.st = some .div0
      ∧ (answer State.reset (.hbEmit .c0)).map Reply.st = some .periph
      ∧ (answer State.reset (.fftPass 3)).map Reply.st = some .illcmd
      ∧ (answer State.reset .capWait).map Reply.st = some .notReady
      ∧ (answer { State.reset with runState := .halted } .capWait).map Reply.st = some .notRunning := by decide

theorem test_witness_OwnershipFrame :
    exec (.semSignal .c0) (base 4 (.hb .c0)) =
      .next { base 4 (.hb .c0) with go := ⟨true, true⟩, coreOwner := ⟨.hb, .none⟩, reply := some ⟨0, .ok⟩ } := rfl

theorem test_witness_DivTruncates : (base 4 .host).readyFor (.fxDiv 7 0) ∧ (base 4 .host).readyFor (.fxDiv 7 2)
    ∧ (2 : Word) ≠ 0 := ⟨⟨rfl, rfl⟩, ⟨rfl, rfl⟩, by decide⟩

/-- 1.0 gives 32768. -/
theorem test_witness_FromFloatTruncates :
    (base 4 .host).readyFor (.fxFromFloat 0x3F800000) ∧ f32Exponent 0x3F800000 ≠ 255
      ∧ IsTrunc 32768 ((f32Value 0x3F800000 : ℝ) * 2 ^ 15) ∧ (-2 ^ 31 : Int) ≤ 32768 := by
  have hv : f32Value 0x3F800000 = 1 := by
    have he : f32Exponent 0x3F800000 = 127 := by decide
    have hf : f32Fraction 0x3F800000 = 0 := by decide
    have hs : f32Sign 0x3F800000 = false := by decide
    simp only [f32Value, he, hf, hs]
    norm_num
  refine ⟨⟨rfl, rfl⟩, by decide, ?_, by norm_num⟩
  rw [hv]
  unfold IsTrunc
  norm_num

theorem test_witness_TableReads : isPow2 (base 4 .host).cfg.n = true ∧ (base 4 .host).readyFor (.cosFft 3)
    ∧ (base 4 .host).readyFor (.sinFft 5) ∧ (base 4 .host).readyFor (.sinDds 256)
    ∧ (base 4 .host).readyFor (.hannRd 4) :=
  ⟨by decide, ⟨rfl, rfl⟩, ⟨rfl, rfl⟩, ⟨rfl, rfl⟩, ⟨rfl, rfl⟩⟩

theorem test_witness_TableSymmetries : isPow2 1024 = true ∧ isPow2 4 = true := by decide

theorem test_witness_EnvStepResult :
    (base 4 (.timer .c0)).readyFor (.envStep .c0) ∧ ((base 4 (.timer .c0)).synth.get .c0).envState = .active
      ∧ (((base 4 (.timer .c0)).synth.get .c0).envElapsed + 1).toNat ≠ (base 4 (.timer .c0)).cfg.beepDuration :=
  ⟨⟨rfl, rfl⟩, rfl, by decide⟩

/-- The other regions: the last ACTIVE step, the first decay step, the last sustain step, and both SILENT
cases. -/
theorem test_witness_EnvStepResult_regions :
    ((15999 : Word) + 1).toNat = Cfg.default.beepDuration
      ∧ Cfg.default.attackTime.toNat + Cfg.default.sustainTime.toNat < (13001 : Word).toNat
      ∧ (13000 : Word).toNat ≤ Cfg.default.attackTime.toNat + Cfg.default.sustainTime.toNat
      ∧ Cfg.default.attackTime.toNat ≤ (3000 : Word).toNat
      ∧ (39999 : Word) + 1 = Cfg.default.beepRepeatInterval
      ∧ (39998 : Word) + 1 ≠ Cfg.default.beepRepeatInterval := by decide

theorem test_witness_DacPushWord :
    (base 4 (.timer .c1)).readyFor (.dacPush .c1)
      ∧ ((base 4 (.timer .c1)).cfg.dacTag.get .c1).toNat % 2 ^ (base 4 (.timer .c1)).cfg.dacDataBits = 0
      ∧ (4095 : BitVec 16).toNat < 2 ^ (base 4 (.timer .c1)).cfg.dacDataBits := ⟨⟨rfl, rfl⟩, by decide, by decide⟩

theorem test_witness_EnvelopePeriod :
    (base 4 (.timer .c0)).readyFor (.envStep .c0)
      ∧ ((base 4 (.timer .c0)).synth.get .c0).envState = .active
      ∧ ((base 4 (.timer .c0)).synth.get .c0).envElapsed = 0
      ∧ ((base 4 (.timer .c0)).synth.get .c0).envAmp = 0
      ∧ 1 ≤ (base 4 (.timer .c0)).cfg.beepDuration ∧ (base 4 (.timer .c0)).cfg.beepDuration < 2 ^ 32
      ∧ (base 4 (.timer .c0)).cfg.beepRepeatInterval ≠ 0 :=
  ⟨⟨rfl, rfl⟩, rfl, rfl, rfl, by decide, by decide, by decide⟩

/-- The same state serves `EnvelopeShape`; the boundary values of `k` are 0 and 15999. -/
theorem test_witness_EnvelopeShape :
    (base 4 (.timer .c0)).readyFor (.envStep .c0) ∧ 0 < (base 4 (.timer .c0)).cfg.beepDuration
      ∧ 15999 < (base 4 (.timer .c0)).cfg.beepDuration := ⟨⟨rfl, rfl⟩, by decide, by decide⟩

theorem test_witness_TicksCommute : (base 4 .host).runState = .running := rfl

/-- Two different states that agree on what a tick of core 0 reads. -/
theorem test_witness_TickReadsOnlyItsOwnCore :
    ({ base 4 (.timer .c0) with tele := ⟨1, 2, 3⟩ } : State).synth.get .c0 = (base 4 (.timer .c0)).synth.get .c0
      ∧ ({ base 4 (.timer .c0) with tele := ⟨1, 2, 3⟩ } : State).readyFor (.ddsTick .c0)
      ∧ (answer (base 4 (.timer .c0)) (.ddsTick .c0)).isSome = true := ⟨rfl, ⟨rfl, rfl⟩, by decide⟩

/-- Dropped, stored, the last of an epoch, and a pointer out of range. -/
theorem test_witness_AcqPushResult :
    (base 4 .acq).readyFor (.acqPush 7) ∧ (base 4 .acq).cap.armed = true
      ∧ (base 4 .acq).cap.wrPtr.toNat + 1 < (base 4 .acq).cfg.n ∧ (base 4 .acq).cfg.n ≤ 65536
      ∧ ({ base 4 .acq with cap := ⟨.buf0, .buf1, 3, true, false⟩ } : State).cap.wrPtr.toNat + 1 = 4
      ∧ ({ base 4 .acq with cap := ⟨.buf0, .buf1, 4, true, false⟩ } : State).cap.wrPtr.toNat = 4
      ∧ ({ base 4 .acq with cap := ⟨.buf0, .buf1, 4, false, true⟩ } : State).cap.armed = false :=
  ⟨⟨rfl, rfl⟩, rfl, by decide, by decide, rfl, rfl, rfl⟩

theorem test_witness_CapWaitResult :
    (base 4 .ct).readyFor .capWait ∧ (base 4 .ct).cap.epochDone = false
      ∧ ({ base 4 .ct with cap := ⟨.buf0, .buf1, 4, false, true⟩ } : State).cap.epochDone = true :=
  ⟨⟨rfl, rfl⟩, rfl, rfl⟩

theorem test_witness_CapRearmResult :
    (base 4 .ct).readyFor .capRearm ∧ (base 4 .ct).cap.epochDone = false
      ∧ ({ base 4 .ct with cap := ⟨.buf0, .buf1, 4, false, true⟩ } : State).cap.epochDone = true :=
  ⟨⟨rfl, rfl⟩, rfl, rfl⟩

/-- Four elements in every space. -/
def full4 : Memory := ⟨elems [1, 2, 3, 4], elems [5, 6, 7, 8], elems [9, 10, 11, 12], elems [13, 14, 15, 16]⟩

/-- The state with `N` = 4 and complete arrays, serving `CT`. -/
def full : State := { base 4 .ct with mem := full4 }

theorem test_witness_WinLoadResult :
    full.readyFor .winLoad ∧ full.mem.filled (.buf full.cap.consSel) full.cfg.n := ⟨⟨rfl, rfl⟩, by decide⟩

theorem test_witness_UnwrittenReadFaults :
    configError (base 4 .ct).cfg = false ∧ (base 4 .ct).readyFor .winLoad ∧ (base 4 .ct).readyFor .fftRun
      ∧ (base 4 .ct).readyFor .fftBitrev ∧ (base 4 .ct).readyFor .peakScan ∧ bitrev 2 1 ≠ 1
      ∧ (base 4 .ct).mem.read (.buf (base 4 .ct).cap.consSel) 0 = none ∧ (base 4 .ct).mem.read .re 1 = none
      ∧ (base 4 .ct).readyFor (.fftPass 2) ∧ legalPassLength (base 4 .ct).cfg.n 2 = true :=
  ⟨by decide, ⟨rfl, rfl⟩, ⟨rfl, rfl⟩, ⟨rfl, rfl⟩, ⟨rfl, rfl⟩, by decide, rfl, rfl, ⟨rfl, rfl⟩, by decide⟩

theorem test_witness_BitrevReversesBits : 5 < 2 ^ 3 ∧ 2 < 3 := by decide

theorem test_witness_FftBitrevPermutes :
    full.readyFor .fftBitrev ∧ isPow2 full.cfg.n = true ∧ full.mem.filled .re full.cfg.n
      ∧ full.mem.filled .im full.cfg.n := ⟨⟨rfl, rfl⟩, by decide, by decide, by decide⟩

theorem test_witness_FftPassButterflies :
    full.readyFor (.fftPass 2) ∧ isPow2 full.cfg.n = true ∧ legalPassLength full.cfg.n 2 = true
      ∧ full.mem.filled .re full.cfg.n ∧ full.mem.filled .im full.cfg.n ∧ 1 / 2 % 2 = 0
      ∧ full.mem.read .re 1 = some 10 ∧ full.mem.read .im 1 = some 14 ∧ full.mem.read .re (1 + 2) = some 12
      ∧ full.mem.read .im (1 + 2) = some 16 :=
  ⟨⟨rfl, rfl⟩, by decide, by decide, by decide, by decide, by decide, rfl, rfl, rfl, rfl⟩

theorem test_witness_FftRunIsItsPasses :
    full.readyFor .fftRun ∧ isPow2 full.cfg.n = true ∧ full.cfg.n ≤ 65536 ∧ full.mem.filled .re full.cfg.n
      ∧ full.mem.filled .im full.cfg.n := ⟨⟨rfl, rfl⟩, by decide, by decide, by decide, by decide⟩

/-- With the estimates 14 and 18, no candidate bin with the default `PEAK_MIN_BIN` and two with 0. -/
theorem test_witness_PeakScanFindsFirstMaximum :
    full.readyFor .peakScan ∧ ∀ i < full.cfg.n / 2, ∃ re im, full.mem.read .re i = some re
      ∧ full.mem.read .im i = some im
      ∧ (fun i => if i = 0 then magnitude 13107 9 13 else magnitude 13107 10 14) i
        = magnitude full.cfg.beta re im := by
  refine ⟨⟨rfl, rfl⟩, fun i hi => ?_⟩
  have h2 : i < 2 := hi
  rcases (by omega : i = 0 ∨ i = 1) with rfl | rfl
  · exact ⟨9, 13, rfl, rfl, rfl⟩
  · exact ⟨10, 14, rfl, rfl, rfl⟩

theorem test_witness_PubFreqIsNearestEven :
    full.readyFor .pubFreq ∧ 1 ≤ full.cfg.n ∧ full.cfg.n ≤ 65536 ∧ full.cfg.fsAcq < 2 ^ 32 :=
  ⟨⟨rfl, rfl⟩, by decide, by decide, by decide⟩

/-- The consumer at `PUB_CNT_LD` and the heartbeat of core 1 at `HB_CLEAR` (a) or `HB_RD_FFT` (b). -/
def racing (p : BitVec 3) (es : List Event) : State :=
  { base 4 .host with
    cons := ⟨0, 0, 0, 6⟩
    coreOwner := ⟨.ct, .hb⟩
    heart := ⟨default, ⟨p, .idle, 1, 0, 0⟩⟩
    inbox := es }

theorem test_witness_CounterRaces :
    (racing 5 [.task .ct true, .task (.hb .c1) true, .task .ct true]).heart.at1.hbPc = 5
      ∧ (racing 3 [.task (.hb .c1) true, .task .ct true, .task .ct true, .task (.hb .c1) true,
          .task (.hb .c1) true]).heart.at1.hbPc = 3
      ∧ (racing 5 []).runState = .running ∧ (racing 5 []).cons.ctPc = 6 ∧ (racing 5 []).coreOwner = ⟨.ct, .hb⟩ := by
  decide

theorem test_witness_SemWaitResult :
    (base 4 (.hb .c0)).readyFor (.semWait .c0) ∧ (base 4 (.hb .c0)).go.get .c0 = true
      ∧ (base 4 (.hb .c1)).readyFor (.semWait .c1) ∧ (base 4 (.hb .c1)).go.get .c1 = false :=
  ⟨⟨rfl, rfl⟩, rfl, ⟨rfl, rfl⟩, rfl⟩

theorem test_witness_HbEmitResult :
    (base 4 (.hb .c0)).readyFor (.hbEmit .c0) ∧ (base 4 (.hb .c0)).conReady = false
      ∧ ({ base 4 (.hb .c0) with conReady := true } : State).readyFor (.hbEmit .c0) :=
  ⟨⟨rfl, rfl⟩, rfl, rfl, rfl⟩

theorem test_witness_HbSleepResult :
    (base 4 (.hb .c0)).readyFor (.hbSleep .c0) ∧ ((base 4 (.hb .c0)).heart.get .c0).sleepState = .idle
      ∧ ((State.setSleep (base 4 (.hb .c0)) .c0 .counting).heart.get .c0).sleepState = .counting
      ∧ ((State.setSleep (base 4 (.hb .c0)) .c0 .expired).heart.get .c0).sleepState = .expired :=
  ⟨⟨rfl, rfl⟩, rfl, rfl, rfl⟩

theorem test_witness_SleepExpireResult :
    ((State.setSleep (base 4 (.sleepTimer .c1)) .c1 .counting).heart.get .c1).sleepState = .counting
      ∧ (State.setSleep (base 4 (.sleepTimer .c1)) .c1 .counting).readyFor (.sleepExpire .c1)
      ∧ ((base 4 (.sleepTimer .c1)).heart.get .c1).sleepState ≠ .counting := ⟨rfl, ⟨rfl, rfl⟩, by decide⟩

/-- A block in the middle of a heartbeat of core 0, one event waiting. -/
def signalling : State :=
  { base 4 .host with
    go := ⟨false, false⟩
    heart := ⟨⟨7, .idle, 1, 0, 0⟩, default⟩
    inbox := [.task (.hb .c0) true] }

theorem test_witness_TokenKept :
    signalling.tokens = 1 ∧ signalling.inboxOccurs ∧ (step { signalling with inbox := [.rstHigh] })
      = .next ({ signalling with inbox := [] } : State).holdReset := ⟨by decide, by decide, rfl⟩

/-- The block while the consumer is about to transform an epoch: `GO[1]` set, `HB[1]` waiting. -/
def busy : State :=
  { base 4 .host with
    mem := full4
    cap := ⟨.buf1, .buf0, 2, true, false⟩
    cons := ⟨0, 0, 0, 3⟩
    go := ⟨false, true⟩
    coreOwner := ⟨.ct, .none⟩
    inbox := [.task (.hb .c0) true, .task (.hb .c1) true] }

theorem test_witness_InvariantKept : busy.Inv where
  occurs := by decide
  token := by decide
  canonical := by decide
  cause := by decide
  buffers := by decide
  pointer := by decide
  owner1 := by decide
  owner0 := by decide
  dac := by decide
  running := fun _ =>
    { config := by decide
      increments := by decide
      phaseIncrement := by decide
      capture := by decide
      pointer := by decide
      gathered := by decide
      complete := by decide
      waited := by decide
      handed := by decide
      loaded := by decide
      peak := by decide
      samples := by decide }
  initial := fun h => absurd h (by decide)
  halted := fun h => absurd h (by decide)

theorem test_witness_InitialisationOutcome :
    (State.held Cfg.default).runState = .init ∧ CfgRejected { Cfg.default with fsAcq := 0 }
      ∧ Cfg.default.attackTime.toNat % 2 ^ 17 ≠ 0 ∧ Cfg.default.decayTime.toNat % 2 ^ 17 ≠ 0
      ∧ ({ Cfg.default with attackTime := 131072 } : Cfg).attackTime.toNat % 2 ^ 17 = 0 :=
  ⟨rfl, .inr (.inl (.inl rfl)), by decide, by decide, by decide⟩

/-- The default configuration, with any ramp time that keeps the beep short, is not rejected. -/
theorem test_witness_InitialisationOutcome_accepted :
    ¬ CfgRejected Cfg.default ∧ ¬ CfgRejected { Cfg.default with attackTime := 131072 } := by
  have hn : ∃ k, Cfg.default.n = 2 ^ k := ⟨10, by decide⟩
  have ht : ∀ (c : CoreId) (k : Nat), k < 12 → (Cfg.default.dacTag.get c).getLsbD k = false := by
    intro c k hk
    cases c <;> revert k <;> decide
  constructor
  · rintro ((h | h | h) | (h | h | h) | (h | h) | h | (h | h | ⟨c, k, hk, h⟩) | (h | h) | h)
    · exact h hn
    all_goals first
      | exact absurd h (by decide)
      | (rw [ht c k hk] at h; exact absurd h (by decide))
  · rintro ((h | h | h) | (h | h | h) | (h | h) | h | (h | h | ⟨c, k, hk, h⟩) | (h | h) | h)
    · exact h hn
    all_goals first
      | exact absurd h (by decide)
      | (rw [ht c k hk] at h; exact absurd h (by decide))

theorem test_witness_HaltIsForever :
    ({ base 4 .host with runState := .halted, inbox := [.task .ct true] } : State).runState = .halted
      ∧ ({ base 4 .host with runState := .halted, inbox := [.task .ct true] } : State).inbox = .task .ct true :: []
      ∧ Event.task .ct true ≠ .rstHigh ∧ (base 4 .host).runState = .running := by decide

/-- With `test_witness_InvariantKept`. -/
theorem test_witness_ConsumerHoldsCore :
    2 ≤ busy.cons.ctPc.toNat ∧ busy.inbox = .task (.hb .c0) true :: [.task (.hb .c1) true] := by decide

/-- With `test_witness_InvariantKept`. -/
theorem test_witness_SignalledHeartbeatFires :
    busy.runState = .running ∧ busy.go.at1 = true ∧ busy.heart.at1.hbPc = 0
      ∧ busy.inbox = [.task (.hb .c0) true] ++ .task (.hb .c1) true :: []
      ∧ ∀ e ∈ [Event.task (.hb .c0) true], e ≠ .rstHigh ∧ ∀ q, e ≠ .task (.hb .c1) q := by
  refine ⟨rfl, rfl, rfl, rfl, ?_⟩
  intro e he
  obtain rfl := List.mem_singleton.mp he
  exact ⟨by decide, by decide⟩

end Sys2Proof.Tests
end

section
/-! PROOFS. Scope: the release of reset with the default configuration (`spec/00_scope.md` R7). -/

namespace Sys2Proof.Machine

/-- R322: a block in INIT answers the release of reset by the initialisation sequence, with no reply pending. -/
theorem State.handle_rstLow_of_init {s : State} (hs : s.runState = .init) (g : Cfg) :
    s.handle (.rstLow g) = .next ({ s with reply := none }.initialise g) := by
  simp only [State.handle, hs]

/-- R322: with a configuration that passes steps 2 and 4 the sequence runs to its end. -/
theorem State.initialise_of_accepted (s : State) {g : Cfg} (hc : configError g = false)
    (hz : zeroRamp g = false) :
    s.initialise g = (s.sampleConfig g).setIncrements.setRegisters.start := by
  obtain ⟨hc', -⟩ | ⟨-, hz', -⟩ | ⟨-, -, hrun⟩ := s.initialise_cases g
  · exact absurd (hc.symm.trans hc') Bool.false_ne_true
  · exact absurd (hz.symm.trans hz') Bool.false_ne_true
  · exact hrun

/-- R26, R320: initialisation of a held block depends only on the sampled `CFG`: nothing of the unspecified
`CFG` under `rst` = 1 is left, `PHASE_INC` included. -/
theorem State.initialise_held (g₀ : Cfg) {g : Cfg} (hc : configError g = false)
    (hz : zeroRamp g = false) :
    (State.held g₀).initialise g =
      { State.held g with
        runState := .running
        attackInc := div g.maxAmplitude (fromInt g.attackTime)
        decayInc := div g.maxAmplitude (fromInt g.decayTime)
        cap := ⟨.buf0, .buf1, 0, true, false⟩ } :=
  (State.held g₀).initialise_of_accepted hc hz

/-- R326: the defaults of R7 are an accepted configuration. -/
theorem configError_default : configError Cfg.default = false := by decide

/-- R324: neither default ramp time is a zero divisor. -/
theorem zeroRamp_default : zeroRamp Cfg.default = false := by decide

/-- R9: `ATTACK_INC` for the defaults of R7. -/
theorem attackInc_default : div Cfg.default.maxAmplitude (fromInt Cfg.default.attackTime) = 10 := by decide

/-- R9: `DECAY_INC` for the defaults of R7. -/
theorem decayInc_default : div Cfg.default.maxAmplitude (fromInt Cfg.default.decayTime) = 10 := by decide

/-- Releasing a held block with the defaults of R7, whatever `CFG` was before. -/
theorem State.initialise_held_default (g₀ : Cfg) : (State.held g₀).initialise Cfg.default = State.reset := by
  rw [State.initialise_held g₀ configError_default zeroRamp_default, attackInc_default, decayInc_default]
  rfl

/-- Settles O55: the held block is in INIT with no reply pending, so the release is the initialisation with
the default configuration, which leaves nothing of the unsampled one. -/
theorem resetState : Obligations.ResetState := by
  unfold Obligations.ResetState
  have hrelease : (State.held Config.unsampledCfg).handle (.rstLow Cfg.default)
      = .next ((State.held Config.unsampledCfg).initialise Cfg.default) :=
    State.handle_rstLow_of_init rfl Cfg.default
  rw [hrelease, State.initialise_held_default]

end Sys2Proof.Machine
end

section
/-! PROOFS. The invariant at the release of reset (`spec/10_state.md` R55, `spec/70_reset_and_hazards.md` R325,
R327). -/

namespace Sys2Proof.Machine

/-- R326 (a): an accepted configuration has at least four elements in every space. -/
theorem four_le_n_of_accepted {g : Cfg} (hc : configError g = false) : 4 ≤ g.n := by
  by_contra hn
  have hsmall : decide (g.n < 4) = true := decide_eq_true (Nat.lt_of_not_le hn)
  simp [configError, hsmall] at hc

/-- R55: the registers as step 5 leaves them hold only the token `GO[0]`. -/
theorem State.tokens_setRegisters_start (s : State) : s.setRegisters.start.tokens = 1 := rfl

section
/-! Steps 4 to 6 of the sequence (R324, R325, R327) on a state `s` that has sampled its configuration. -/

variable {s : State}

/-- Once an accepted configuration is sampled and no sample is stored yet, the block that starts meets what
holds while RUNNING: every claim about stored samples is about an empty prefix of `BUF` or about a later
position of the consumer. -/
theorem State.runInv_start (hc : configError s.cfg = false) (hmem : s.mem = Memory.empty) :
    s.setIncrements.setRegisters.start.RunInv := by
  have hn : 0 < s.cfg.n := Nat.lt_of_lt_of_le (by decide) (four_le_n_of_accepted hc)
  have hempty : s.setIncrements.setRegisters.start.mem = Memory.empty := hmem
  exact
    { config := hc
      increments := ⟨rfl, rfl⟩
      phaseIncrement := ⟨rfl, rfl⟩
      capture := rfl
      pointer := fun _ => hn
      gathered := fun i hi => absurd hi (Nat.not_lt_zero i)
      complete := fun hdone => absurd hdone Bool.false_ne_true
      waited := fun hpc => absurd hpc (by decide : (0 : BitVec 3) ≠ 1)
      handed := fun hpc => absurd hpc (by decide : (0 : BitVec 3) ≠ 2)
      loaded := fun hpc => absurd hpc (by decide : ¬ 3 ≤ (0 : BitVec 3).toNat)
      peak := hn
      samples := by
        rw [hempty]
        exact fun p hp => absurd hp List.not_mem_nil }

/-- The same for the whole invariant. `DAC_OUT` and the events to come are the two things the sequence leaves
alone that the invariant speaks of. -/
theorem State.inv_start (hc : configError s.cfg = false) (hmem : s.mem = Memory.empty)
    (hin : s.inboxOccurs)
    (hdac : s.synth.at0.dacOut.toNat < 2 ^ s.cfg.dacDataBits
      ∧ s.synth.at1.dacOut.toNat < 2 ^ s.cfg.dacDataBits) :
    s.setIncrements.setRegisters.start.Inv where
  occurs := hin
  token := s.setIncrements.tokens_setRegisters_start
  canonical := by
    show s.mem.wf s.cfg.n
    exact hmem ▸ Memory.wf_empty s.cfg.n
  cause := ⟨Nat.zero_le 4, fun hcause => absurd rfl hcause⟩
  buffers := by simp [State.start, State.setRegisters]
  pointer := Nat.zero_le s.cfg.n
  owner1 := by simp [State.start, State.setRegisters]
  owner0 := fun hpc => absurd hpc (by decide : ¬ 2 ≤ (0 : BitVec 3).toNat)
  dac := hdac
  running := fun _ => State.runInv_start hc hmem
  initial := fun hrun => absurd hrun (by simp)
  halted := fun hrun => absurd hrun (by simp)

end

/-- R327: releasing a held block with an accepted configuration gives a block that meets the invariant. -/
theorem State.inv_initialise_held (g₀ : Cfg) {g : Cfg} (hc : configError g = false) (hz : zeroRamp g = false) :
    ((State.held g₀).initialise g).Inv := by
  rw [(State.held g₀).initialise_of_accepted hc hz]
  have hdac : (0 : BitVec 16).toNat < 2 ^ g.dacDataBits := Nat.two_pow_pos g.dacDataBits
  exact State.inv_start hc rfl (fun e he => absurd he List.not_mem_nil) ⟨hdac, hdac⟩

/-- Settles O53: the state after reset is a held block released with the defaults of R7, an accepted
configuration. -/
theorem invariantAtReset : Obligations.InvariantAtReset := by
  unfold Obligations.InvariantAtReset
  rw [← State.initialise_held_default Cfg.default]
  exact State.inv_initialise_held Cfg.default configError_default zeroRamp_default

end Sys2Proof.Machine
end

section
/-! PROOFS. The loops over storage: which elements each of them needs, which it leaves alone, and that bit
reversal is its own inverse (`spec/20_memory.md` R73, `spec/44_capture.md` R196, `spec/45_fft.md` R211 to R217,
`spec/46_magnitude_peak.md` R232). -/

namespace Sys2Proof.Machine

section
/-! ### Loops that can fail -/

variable {α β γ : Type} {f : β → α → Option β} {l : List α}

/-- Where a view `W` of the data is kept by every iteration and says whether an iteration succeeds, the loop
succeeds exactly if every iteration would at its beginning. -/
theorem foldlM_isSome_iff (W : β → γ) (ok : α → γ → Prop)
    (hkeep : ∀ b b', ∀ a ∈ l, f b a = some b' → W b' = W b)
    (hok : ∀ b, ∀ a ∈ l, (f b a).isSome = true ↔ ok a (W b)) (b : β) :
    (l.foldlM f b).isSome = true ↔ ∀ a ∈ l, ok a (W b) := by
  induction l generalizing b with
  | nil => simp
  | cons a rest ih =>
    have hrest := ih (fun b b' x hx => hkeep b b' x (List.mem_cons_of_mem _ hx))
      (fun b x hx => hok b x (List.mem_cons_of_mem _ hx))
    rw [List.forall_mem_cons, ← hok b a List.mem_cons_self]
    cases hfa : f b a with
    | none => simp [hfa]
    | some b' =>
      rw [← hkeep b b' a List.mem_cons_self hfa, ← hrest b']
      simp [hfa]

/-- A view of the data that every iteration keeps is kept by the loop. -/
theorem foldlM_keeps_view (W : β → γ) (hkeep : ∀ b b', ∀ a ∈ l, f b a = some b' → W b' = W b) {b b' : β}
    (h : l.foldlM f b = some b') : W b' = W b :=
  foldlM_keeps (fun x => W x = W b) f l (fun b1 b2 a ha h1 hb1 => (hkeep b1 b2 a ha h1).trans hb1) b b' h rfl

/-- What each iteration brings about and no iteration undoes holds of every index after the loop. -/
theorem foldlM_establishes (Q : α → β → Prop) (hset : ∀ b b', ∀ a ∈ l, f b a = some b' → Q a b')
    (hkeep : ∀ b b', ∀ a ∈ l, f b a = some b' → ∀ x, Q x b → Q x b') {b b' : β}
    (h : l.foldlM f b = some b') : ∀ a ∈ l, Q a b' := by
  induction l generalizing b with
  | nil => simp
  | cons a rest ih =>
    simp only [List.foldlM_cons, Option.bind_eq_bind, Option.bind_eq_some_iff] at h
    obtain ⟨b1, h1, h2⟩ := h
    have hkeep' : ∀ b b', ∀ x ∈ rest, f b x = some b' → ∀ y, Q y b → Q y b' :=
      fun b b' x hx => hkeep b b' x (List.mem_cons_of_mem _ hx)
    have hlast : Q a b' := foldlM_keeps (Q a) f rest (fun c c' x hx hc => hkeep' c c' x hx hc a) b1 b' h2
      (hset b b1 a List.mem_cons_self h1)
    exact List.forall_mem_cons.2
      ⟨hlast, ih (fun b b' x hx => hset b b' x (List.mem_cons_of_mem _ hx)) hkeep' h2⟩

end

/-! ### Which elements are written, and the sample buffers -/

/-- Which elements of a storage something has written (R73). -/
def Memory.written (m : Memory) (sp : Space) (k : Nat) : Bool := (m.read sp k).isSome

theorem Memory.written_write_same (m : Memory) (sp : Space) (k : Nat) (v : Word) :
    (m.write sp k v).written sp k = true := by
  simp [Memory.written]

/-- A write unwrites nothing. -/
theorem Memory.written_write_mono (m : Memory) (sp sq : Space) (i k : Nat) (v : Word)
    (h : m.written sq k = true) : (m.write sp i v).written sq k = true := by
  unfold Memory.written
  rw [Memory.read_write]
  split
  · rfl
  · exact h

/-- Writing an element that is already written leaves the set of written elements. -/
theorem Memory.written_write_of_written (m : Memory) (sp : Space) (i : Nat) (v : Word)
    (h : m.written sp i = true) : (m.write sp i v).written = m.written := by
  funext sq k
  unfold Memory.written
  rw [Memory.read_write]
  split
  · next he =>
    obtain ⟨rfl, rfl⟩ := Prod.mk.inj he
    exact h.symm
  · rfl

/-- The two sample buffers of a storage, as data. -/
def Memory.buffers (m : Memory) : Store × Store := (m.buf0, m.buf1)

@[simp] theorem Memory.buffers_write_re (m : Memory) (i : Nat) (v : Word) :
    (m.write .re i v).buffers = m.buffers := rfl

@[simp] theorem Memory.buffers_write_im (m : Memory) (i : Nat) (v : Word) :
    (m.write .im i v).buffers = m.buffers := rfl

/-- Storages with the same buffers hold the same elements there. -/
theorem Memory.store_buf_of_buffers {m m' : Memory} (h : m'.buffers = m.buffers) (b : BufSel) :
    m'.store (.buf b) = m.store (.buf b) := by
  obtain ⟨h0, h1⟩ := Prod.mk.inj h
  cases b with
  | buf0 => exact h0
  | buf1 => exact h1

theorem Memory.read_buf_of_buffers {m m' : Memory} (h : m'.buffers = m.buffers) (b : BufSel) (k : Nat) :
    m'.read (.buf b) k = m.read (.buf b) k := by
  simp only [Memory.read, Memory.store_buf_of_buffers h b]

/-! ### `WIN_LOAD` -/

theorem windowElement_isSome_iff (n : Nat) (b : BufSel) (m : Memory) (i : Nat) :
    (windowElement n b m i).isSome = true ↔ m.written (.buf b) i = true := by
  unfold windowElement Memory.written
  cases m.read (.buf b) i <;> simp

theorem windowElement_buffers {n : Nat} {b : BufSel} {m m' : Memory} {i : Nat}
    (h : windowElement n b m i = some m') : m'.buffers = m.buffers := by
  obtain ⟨x, -, rfl⟩ := windowElement_eq n b m m' i h
  rfl

theorem windowLoad_buffers {n : Nat} {b : BufSel} {m m' : Memory} (h : windowLoad n b m = some m') :
    m'.buffers = m.buffers :=
  foldlM_keeps_view Memory.buffers (fun _ _ _ _ h1 => windowElement_buffers h1) h

/-- R196: `WIN_LOAD` needs the whole buffer it reads. -/
theorem windowLoad_isSome_iff (n : Nat) (b : BufSel) (m : Memory) :
    (windowLoad n b m).isSome = true ↔ m.filled (.buf b) n := by
  have hloop := foldlM_isSome_iff (f := windowElement n b) (l := List.range n)
    (fun m k => m.written (.buf b) k) (fun i w => w i = true)
    (fun m1 m2 i _ h1 => funext fun k => by
      simp only [Memory.written, Memory.read_buf_of_buffers (windowElement_buffers h1)])
    (fun m1 i _ => windowElement_isSome_iff n b m1 i) m
  exact hloop.trans (by simp [Memory.written])

/-- R197: `WIN_LOAD` writes the whole of `RE` and `IM`. -/
theorem windowLoad_fills {n : Nat} {b : BufSel} {m m' : Memory} (h : windowLoad n b m = some m') :
    m'.filled .re n ∧ m'.filled .im n := by
  have hall := foldlM_establishes (fun i m => m.written .re i = true ∧ m.written .im i = true)
    (fun m1 m2 i _ h1 => by
      obtain ⟨x, -, rfl⟩ := windowElement_eq n b m1 m2 i h1
      exact ⟨Memory.written_write_mono _ _ _ _ _ _ (Memory.written_write_same _ _ _ _),
        Memory.written_write_same _ _ _ _⟩)
    (fun m1 m2 i _ h1 k hk => by
      obtain ⟨x, -, rfl⟩ := windowElement_eq n b m1 m2 i h1
      exact ⟨Memory.written_write_mono _ _ _ _ _ _ (Memory.written_write_mono _ _ _ _ _ _ hk.1),
        Memory.written_write_mono _ _ _ _ _ _ (Memory.written_write_mono _ _ _ _ _ _ hk.2)⟩) h
  exact ⟨fun i hi => (hall i (List.mem_range.2 hi)).1, fun i hi => (hall i (List.mem_range.2 hi)).2⟩

/-! ### Bit reversal -/

/-- R211: the reversal read from its other end. -/
theorem bitrev_top (bits h y : Nat) (hh : h < 2) (hy : y < 2 ^ bits) :
    bitrev (bits + 1) (h * 2 ^ bits + y) = 2 * bitrev bits y + h := by
  induction bits generalizing y with
  | zero =>
    have hy0 : y = 0 := by simpa using hy
    subst hy0
    simp [bitrev, Nat.mod_eq_of_lt hh]
  | succ k ih =>
    have hpow : 2 ^ (k + 1) = 2 * 2 ^ k := by ring
    have hmod : (h * 2 ^ (k + 1) + y) % 2 = y % 2 := by
      rw [hpow, show h * (2 * 2 ^ k) = 2 * (h * 2 ^ k) by ring]
      omega
    have hdiv : (h * 2 ^ (k + 1) + y) / 2 = h * 2 ^ k + y / 2 := by
      rw [hpow, show h * (2 * 2 ^ k) = 2 * (h * 2 ^ k) by ring]
      omega
    rw [bitrev, hmod, hdiv, ih (y / 2) (by omega), bitrev, hpow]
    ring

/-- R211: bit reversal is its own inverse. -/
theorem bitrev_bitrev (bits m : Nat) (hm : m < 2 ^ bits) : bitrev bits (bitrev bits m) = m := by
  induction bits generalizing m with
  | zero =>
    have hm0 : m = 0 := by simpa using hm
    simp [bitrev, hm0]
  | succ k ih =>
    have hhalf : m / 2 < 2 ^ k := by
      rw [Nat.pow_succ] at hm
      omega
    have hunfold : bitrev (k + 1) m = m % 2 * 2 ^ k + bitrev k (m / 2) := rfl
    rw [hunfold, bitrev_top k (m % 2) _ (Nat.mod_lt _ (by decide)) (bitrev_lt k _), ih _ hhalf]
    omega

theorem bitrev_zero (bits : Nat) : bitrev bits 0 = 0 := by
  induction bits with
  | zero => rfl
  | succ k ih => simp [bitrev, ih]

theorem bitrev_log2_lt {n : Nat} (hn : 0 < n) (k : Nat) : bitrev n.log2 k < n :=
  Nat.lt_of_lt_of_le (bitrev_lt _ _) (Nat.log2_self_le (by omega))

theorem isPow2_eq {n : Nat} (h : isPow2 n = true) : n = 2 ^ n.log2 := by simpa [isPow2] using h

/-! ### `FFT_BITREV` -/

theorem swapElements_isSome_iff (sp : Space) (m : Memory) (i j : Nat) :
    (swapElements sp m i j).isSome = true ↔ m.written sp i = true ∧ m.written sp j = true := by
  unfold swapElements Memory.written
  cases m.read sp i <;> cases m.read sp j <;> simp

/-- An exchange writes only elements that are already written. -/
theorem swapElements_written {sp : Space} {m m' : Memory} {i j : Nat} (h : swapElements sp m i j = some m') :
    m'.written = m.written := by
  obtain ⟨x, y, hx, hy, rfl⟩ := swapElements_eq sp m m' i j h
  have hi : m.written sp i = true := by simp [Memory.written, hx]
  have hj : m.written sp j = true := by simp [Memory.written, hy]
  have h1 : (m.write sp i y).written = m.written := Memory.written_write_of_written m sp i y hi
  rw [Memory.written_write_of_written _ sp j x (h1 ▸ hj), h1]

theorem swapElements_buffers {sp : Space} (hsp : sp = .re ∨ sp = .im) {m m' : Memory} {i j : Nat}
    (h : swapElements sp m i j = some m') : m'.buffers = m.buffers := by
  obtain ⟨x, y, -, -, rfl⟩ := swapElements_eq sp m m' i j h
  rcases hsp with rfl | rfl <;> rfl

/-- What an iteration of the bit-reversal loop needs of the written elements `w`. -/
def exchangeNeeds (bits : Nat) (k : Nat) (w : Space → Nat → Bool) : Prop :=
  k < bitrev bits k → (w .re k = true ∧ w .re (bitrev bits k) = true)
    ∧ (w .im k = true ∧ w .im (bitrev bits k) = true)

theorem bitrevElement_isSome_iff (bits : Nat) (m : Memory) (k : Nat) :
    (bitrevElement bits m k).isSome = true ↔ exchangeNeeds bits k m.written := by
  unfold bitrevElement exchangeNeeds
  by_cases hk : k < bitrev bits k
  · simp only [hk, if_true, true_implies]
    rw [← swapElements_isSome_iff .re m k (bitrev bits k)]
    cases hre : swapElements .re m k (bitrev bits k) with
    | none => simp
    | some m1 =>
      rw [← swapElements_written hre, ← swapElements_isSome_iff .im m1 k (bitrev bits k)]
      simp
  · simp [hk]

theorem bitrevElement_written {bits : Nat} {m m' : Memory} {k : Nat} (h : bitrevElement bits m k = some m') :
    m'.written = m.written := by
  obtain ⟨-, rfl⟩ | ⟨-, m1, hre, him⟩ := bitrevElement_eq bits m m' k h
  · rfl
  · exact (swapElements_written him).trans (swapElements_written hre)

theorem bitrevElement_buffers {bits : Nat} {m m' : Memory} {k : Nat} (h : bitrevElement bits m k = some m') :
    m'.buffers = m.buffers := by
  obtain ⟨-, rfl⟩ | ⟨-, m1, hre, him⟩ := bitrevElement_eq bits m m' k h
  · rfl
  · exact (swapElements_buffers (.inr rfl) him).trans (swapElements_buffers (.inl rfl) hre)

theorem bitrevAll_written {n : Nat} {m m' : Memory} (h : bitrevAll n m = some m') : m'.written = m.written :=
  foldlM_keeps_view Memory.written (fun _ _ _ _ h1 => bitrevElement_written h1) h

theorem bitrevAll_buffers {n : Nat} {m m' : Memory} (h : bitrevAll n m = some m') : m'.buffers = m.buffers :=
  foldlM_keeps_view Memory.buffers (fun _ _ _ _ h1 => bitrevElement_buffers h1) h

/-- R212: `FFT_BITREV` needs the elements it exchanges. -/
theorem bitrevAll_isSome_iff (n : Nat) (m : Memory) :
    (bitrevAll n m).isSome = true ↔ ∀ k, 1 ≤ k → k + 1 < n → exchangeNeeds n.log2 k m.written := by
  have hloop := foldlM_isSome_iff (f := bitrevElement n.log2) (l := List.range' 1 (n - 2)) Memory.written
    (exchangeNeeds n.log2) (fun _ _ _ _ h1 => bitrevElement_written h1)
    (fun m1 k _ => bitrevElement_isSome_iff n.log2 m1 k) m
  refine hloop.trans ⟨fun h k h1 hk => h k ?_, fun h k hk => ?_⟩
  · exact List.mem_range'_1.2 ⟨h1, by omega⟩
  · obtain ⟨h1, h2⟩ := List.mem_range'_1.1 hk
    exact h k h1 (by omega)

/-- R212: on whole arrays `FFT_BITREV` completes. -/
theorem bitrevAll_isSome_of_filled {n : Nat} {m : Memory} (hre : m.filled .re n) (him : m.filled .im n) :
    (bitrevAll n m).isSome = true := by
  refine (bitrevAll_isSome_iff n m).2 fun k _ hk _ => ?_
  have hkr : bitrev n.log2 k < n := bitrev_log2_lt (by omega) k
  exact ⟨⟨hre k (by omega), hre _ hkr⟩, him k (by omega), him _ hkr⟩

/-- R212: each index that bit reversal moves is exchanged in the loop, at the smaller index of its pair. -/
theorem written_of_bitrevAll {n : Nat} {m : Memory} (hn : isPow2 n = true) (h : (bitrevAll n m).isSome = true)
    {i : Nat} (h1 : 1 ≤ i) (hi : i + 1 < n) (hmove : bitrev n.log2 i ≠ i) :
    m.written .re i = true ∧ m.written .im i = true := by
  have hinv : bitrev n.log2 (bitrev n.log2 i) = i := bitrev_bitrev n.log2 i (isPow2_eq hn ▸ by omega)
  have hall := (bitrevAll_isSome_iff n m).1 h
  rcases Nat.lt_or_gt_of_ne hmove with hlt | hgt
  · have hpos : bitrev n.log2 i ≠ 0 := by
      intro h0
      rw [h0, bitrev_zero] at hinv
      omega
    obtain ⟨⟨-, hre⟩, -, him⟩ := hall (bitrev n.log2 i) (by omega) (by omega) (by rw [hinv]; exact hlt)
    rw [hinv] at hre him
    exact ⟨hre, him⟩
  · obtain ⟨⟨hre, -⟩, him, -⟩ := hall i h1 hi hgt
    exact ⟨hre, him⟩

/-! ### `FFT_PASS` -/

/-- What a butterfly on `i` and `j` needs of the written elements `w`. -/
def butterflyNeeds (i j : Nat) (w : Space → Nat → Bool) : Prop :=
  (w .re i = true ∧ w .im i = true) ∧ (w .re j = true ∧ w .im j = true)

theorem butterfly_isSome_iff (wr wi : Word) (m : Memory) (i j : Nat) :
    (butterfly wr wi m i j).isSome = true ↔ butterflyNeeds i j m.written := by
  unfold butterfly butterflyNeeds Memory.written
  cases m.read .re i <;> cases m.read .im i <;> cases m.read .re j <;> cases m.read .im j <;> simp

/-- A butterfly writes only elements that are already written. -/
theorem butterfly_written {wr wi : Word} {m m' : Memory} {i j : Nat} (h : butterfly wr wi m i j = some m') :
    m'.written = m.written := by
  have hneeds := (butterfly_isSome_iff wr wi m i j).1 (Option.isSome_iff_exists.2 ⟨m', h⟩)
  obtain ⟨⟨hri, hii⟩, hrj, hij⟩ := hneeds
  obtain ⟨ri, ii, rj, ij, -, -, -, -, rfl⟩ := butterfly_eq wr wi m m' i j h
  have keep : ∀ (m1 : Memory) (sp : Space) (k : Nat) (v : Word), m1.written = m.written →
      m.written sp k = true → (m1.write sp k v).written = m.written := fun m1 sp k v h1 hk =>
    (Memory.written_write_of_written m1 sp k v (h1 ▸ hk)).trans h1
  exact keep _ _ _ _ (keep _ _ _ _ (keep _ _ _ _ (keep _ _ _ _ rfl hrj) hij) hri) hii

theorem butterfly_buffers {wr wi : Word} {m m' : Memory} {i j : Nat} (h : butterfly wr wi m i j = some m') :
    m'.buffers = m.buffers := by
  obtain ⟨ri, ii, rj, ij, -, -, -, -, rfl⟩ := butterfly_eq wr wi m m' i j h
  rfl

theorem passGroup_written {n l : Nat} {m m' : Memory} {k : Nat} (h : passGroup n l m k = some m') :
    m'.written = m.written :=
  foldlM_keeps_view Memory.written (fun _ _ _ _ h1 => butterfly_written h1) h

theorem passGroup_buffers {n l : Nat} {m m' : Memory} {k : Nat} (h : passGroup n l m k = some m') :
    m'.buffers = m.buffers :=
  foldlM_keeps_view Memory.buffers (fun _ _ _ _ h1 => butterfly_buffers h1) h

theorem fftPass_written {n l : Nat} {m m' : Memory} (h : fftPass n l m = some m') : m'.written = m.written :=
  foldlM_keeps_view Memory.written (fun _ _ _ _ h1 => passGroup_written h1) h

theorem fftPass_buffers {n l : Nat} {m m' : Memory} (h : fftPass n l m = some m') : m'.buffers = m.buffers :=
  foldlM_keeps_view Memory.buffers (fun _ _ _ _ h1 => passGroup_buffers h1) h

/-- What group `k` of the pass of length `l` needs of the written elements `w`. -/
def groupNeeds (n l k : Nat) (w : Space → Nat → Bool) : Prop :=
  ∀ b ∈ List.range (n / (2 * l)), butterflyNeeds (k + b * (2 * l)) (k + b * (2 * l) + l) w

theorem passGroup_isSome_iff (n l : Nat) (m : Memory) (k : Nat) :
    (passGroup n l m k).isSome = true ↔ groupNeeds n l k m.written :=
  foldlM_isSome_iff Memory.written (fun b => butterflyNeeds (k + b * (2 * l)) (k + b * (2 * l) + l))
    (fun _ _ _ _ h1 => butterfly_written h1) (fun m1 _ _ => butterfly_isSome_iff _ _ m1 _ _) m

/-- R214: every index below `n` stands in one of the pairs of the pass. -/
theorem pass_index {n l i : Nat} (hd : 2 * l ∣ n) (hi : i < n) :
    ∃ k < l, ∃ b < n / (2 * l), i = k + b * (2 * l) ∨ i = k + b * (2 * l) + l := by
  have hl : 0 < 2 * l := Nat.pos_of_dvd_of_pos hd (by omega)
  have hb : i / (2 * l) < n / (2 * l) := Nat.div_lt_div_of_lt_of_dvd hd hi
  have hsplit : i = i % (2 * l) + i / (2 * l) * (2 * l) := (Nat.mod_add_div' i (2 * l)).symm
  have hr : i % (2 * l) < 2 * l := Nat.mod_lt _ hl
  rcases Nat.lt_or_ge (i % (2 * l)) l with hlow | hhigh
  · exact ⟨i % (2 * l), hlow, i / (2 * l), hb, .inl hsplit⟩
  · exact ⟨i % (2 * l) - l, by omega, i / (2 * l), hb, .inr (by omega)⟩

/-- R214, R215: a pass needs the whole of `RE` and `IM`. -/
theorem fftPass_isSome_iff {n l : Nat} (hd : 2 * l ∣ n) (m : Memory) :
    (fftPass n l m).isSome = true ↔ m.filled .re n ∧ m.filled .im n := by
  have hloop : (fftPass n l m).isSome = true ↔ ∀ k ∈ List.range l, groupNeeds n l k m.written :=
    foldlM_isSome_iff Memory.written (groupNeeds n l) (fun _ _ _ _ h1 => passGroup_written h1)
      (fun m1 k _ => passGroup_isSome_iff n l m1 k) m
  have hpairs : (∀ k ∈ List.range l, groupNeeds n l k m.written)
      ↔ ∀ i < n, m.written .re i = true ∧ m.written .im i = true := by
    constructor
    · intro h i hi
      obtain ⟨k, hk, b, hb, hik⟩ := pass_index hd hi
      obtain ⟨hlow, hhigh⟩ := h k (List.mem_range.2 hk) b (List.mem_range.2 hb)
      rcases hik with rfl | rfl
      · exact hlow
      · exact hhigh
    · intro h k hk b hb
      have hlt := butterfly_index_lt n l k b (List.mem_range.1 hk) (List.mem_range.1 hb)
      exact ⟨h _ (by omega), h _ hlt⟩
  exact hloop.trans (hpairs.trans
    ⟨fun h => ⟨fun i hi => (h i hi).1, fun i hi => (h i hi).2⟩, fun h i hi => ⟨h.1 i hi, h.2 i hi⟩⟩)

/-- R214: twice a power of two that is at most half of a power of two divides it. -/
theorem two_mul_dvd_of_legal {n l : Nat} (hn : isPow2 n = true) (hl : legalPassLength n l = true) :
    2 * l ∣ n := by
  obtain ⟨hpow, hle⟩ : isPow2 l = true ∧ l ≤ n / 2 := by simpa [legalPassLength] using hl
  have h2l : 2 * l = 2 ^ (l.log2 + 1) := by
    rw [Nat.pow_succ, ← isPow2_eq hpow]
    ring
  have hexp : 2 ^ (l.log2 + 1) ≤ 2 ^ n.log2 := by
    rw [← h2l, ← isPow2_eq hn]
    omega
  rw [h2l, isPow2_eq hn]
  exact pow_dvd_pow 2 ((Nat.pow_le_pow_iff_right (by decide)).1 hexp)

/-! ### `FFT_RUN` -/

theorem fftPasses_written {n : Nat} {m m' : Memory} (h : fftPasses n m = some m') : m'.written = m.written :=
  foldlM_keeps_view Memory.written (fun _ _ _ _ h1 => fftPass_written h1) h

theorem fftPasses_buffers {n : Nat} {m m' : Memory} (h : fftPasses n m = some m') : m'.buffers = m.buffers :=
  foldlM_keeps_view Memory.buffers (fun _ _ _ _ h1 => fftPass_buffers h1) h

theorem fftRun_eq {n : Nat} {m m' : Memory} (h : fftRun n m = some m') :
    ∃ m1, bitrevAll n m = some m1 ∧ fftPasses n m1 = some m' := by
  unfold fftRun at h
  split at h
  · next m1 h1 => exact ⟨m1, h1, h⟩
  · cases h

theorem fftRun_written {n : Nat} {m m' : Memory} (h : fftRun n m = some m') : m'.written = m.written := by
  obtain ⟨m1, h1, h2⟩ := fftRun_eq h
  exact (fftPasses_written h2).trans (bitrevAll_written h1)

theorem fftRun_buffers {n : Nat} {m m' : Memory} (h : fftRun n m = some m') : m'.buffers = m.buffers := by
  obtain ⟨m1, h1, h2⟩ := fftRun_eq h
  exact (fftPasses_buffers h2).trans (bitrevAll_buffers h1)

/-- R216: the passes need the whole of `RE` and `IM`; there is at least one. -/
theorem fftPasses_isSome_iff {n : Nat} (hn : isPow2 n = true) (h2 : 2 ≤ n) (m : Memory) :
    (fftPasses n m).isSome = true ↔ m.filled .re n ∧ m.filled .im n := by
  have hlog : 0 < n.log2 := (Nat.le_log2 (by omega)).2 h2
  have hloop : (fftPasses n m).isSome = true ↔ ∀ k ∈ List.range n.log2,
      (fun w : Space → Nat → Bool => (∀ i < n, w .re i = true) ∧ ∀ i < n, w .im i = true) m.written :=
    foldlM_isSome_iff Memory.written
      (fun _ w => (∀ i < n, w .re i = true) ∧ ∀ i < n, w .im i = true)
      (fun _ _ _ _ h1 => fftPass_written h1)
      (fun m1 k hk => by
        have hd : 2 * 2 ^ k ∣ n := by
          have hkn := List.mem_range.1 hk
          rw [isPow2_eq hn, ← Nat.pow_succ']
          exact pow_dvd_pow 2 hkn
        exact fftPass_isSome_iff hd m1) m
  exact hloop.trans ⟨fun h => h 0 (List.mem_range.2 hlog), fun h _ _ => h⟩

/-- R217: the transform needs the whole of `RE` and `IM`. -/
theorem fftRun_isSome_iff {n : Nat} (hn : isPow2 n = true) (h2 : 2 ≤ n) (m : Memory) :
    (fftRun n m).isSome = true ↔ m.filled .re n ∧ m.filled .im n := by
  constructor
  · intro h
    obtain ⟨m', hm'⟩ := Option.isSome_iff_exists.1 h
    obtain ⟨m1, hrev, hpass⟩ := fftRun_eq hm'
    obtain ⟨hre, him⟩ := (fftPasses_isSome_iff hn h2 m1).1 (Option.isSome_iff_exists.2 ⟨m', hpass⟩)
    have hw : m1.written = m.written := bitrevAll_written hrev
    exact ⟨fun i hi => (congrFun (congrFun hw .re) i).symm.trans (hre i hi),
      fun i hi => (congrFun (congrFun hw .im) i).symm.trans (him i hi)⟩
  · rintro ⟨hre, him⟩
    obtain ⟨m1, hrev⟩ := Option.isSome_iff_exists.1 (bitrevAll_isSome_of_filled hre him)
    have hw : m1.written = m.written := bitrevAll_written hrev
    have hpass : (fftPasses n m1).isSome = true := (fftPasses_isSome_iff hn h2 m1).2
      ⟨fun i hi => (congrFun (congrFun hw .re) i).trans (hre i hi),
        fun i hi => (congrFun (congrFun hw .im) i).trans (him i hi)⟩
    unfold fftRun
    rw [hrev]
    exact hpass

/-! ### `PEAK_SCAN` -/

theorem peakElement_isSome_iff (g : Cfg) (m : Memory) (best : Word × Nat) (i : Nat) :
    (peakElement g m best i).isSome = true ↔ m.written .re i = true ∧ m.written .im i = true := by
  unfold peakElement Memory.written
  cases m.read .re i <;> cases m.read .im i <;> simp [apply_ite]

/-- R232: the search needs the first half of `RE` and `IM`. -/
theorem peakSearch_isSome_iff (g : Cfg) (m : Memory) :
    (peakSearch g m).isSome = true ↔ ∀ i < g.n / 2, m.written .re i = true ∧ m.written .im i = true := by
  have hloop := foldlM_isSome_iff (f := peakElement g m) (l := List.range (g.n / 2)) (fun _ => ())
    (fun i _ => m.written .re i = true ∧ m.written .im i = true) (fun _ _ _ _ _ => rfl)
    (fun best i _ => peakElement_isSome_iff g m best i) (0, 0)
  exact hloop.trans (by simp)

/-- R39, R232: the bin found is one that was looked at, or 0. -/
theorem peakSearch_lt {g : Cfg} {m : Memory} {best : Word × Nat} (hn : 0 < g.n)
    (h : peakSearch g m = some best) : best.2 < g.n := by
  refine foldlM_keeps (fun best => best.2 < g.n) _ _ (fun b b' i hi h1 hb => ?_) (0, 0) best h hn
  have hin : i < g.n / 2 := List.mem_range.1 hi
  unfold peakElement at h1
  split at h1
  · simp only at h1
    split at h1
    · cases h1
      show i < g.n
      omega
    · cases h1
      exact hb
  · cases h1

end Sys2Proof.Machine
end

section
/-! PROOFS. Who may change what (`spec/20_memory.md` R66): the frame of an operation, kept by each operation on
the state, and from them the frame of `exec`. -/

namespace Sys2Proof.Machine

/-- Two storages with the same stores are the same. -/
theorem Memory.ext_store {m m' : Memory} (h : ∀ sp, m.store sp = m'.store sp) : m = m' := by
  obtain ⟨b0, b1, re, im⟩ := m
  obtain ⟨b0', b1', re', im'⟩ := m'
  obtain rfl : b0 = b0' := h (.buf .buf0)
  obtain rfl : b1 = b1' := h (.buf .buf1)
  obtain rfl : re = re' := h .re
  obtain rfl : im = im' := h .im
  rfl

/-- The errors a request can raise record their own cause (R24, R25, R283). -/
theorem State.causeRecorded_record (s : State) {k : Status} (hk : k.stickyBit ≠ 0) :
    (s.record k).causeRecorded := by
  have hbits : ∀ st : BitVec 4, k.code.toNat ≤ 4 ∧
      (k.code ≠ 0 → (setSticky st k).getLsbD (k.code.toNat - 1) = true) := by
    cases k <;> first | exact absurd rfl hk | decide
  exact hbits s.status

/-- R66, and beyond it what R24, R31, R32, R47 and R268 need: what the operation `i` may change between `s` and
`t`. Storage is compared as data, not element by element. -/
structure Frame (i : Instr) (s t : State) : Prop where
  runState : t.runState = s.runState
  cfg : t.cfg = s.cfg
  attackInc : t.attackInc = s.attackInc
  decayInc : t.decayInc = s.decayInc
  agent : t.agent = s.agent
  conReady : t.conReady = s.conReady
  inbox : t.inbox = s.inbox
  arrivals : t.arrivals = s.arrivals
  cause : s.causeRecorded → t.causeRecorded
  phaseInc : ∀ c, (t.synth.get c).phaseInc = (s.synth.get c).phaseInc
  dacOut : ∀ c, (t.synth.get c).dacOut = (s.synth.get c).dacOut
    ∨ ∃ v, (t.synth.get c).dacOut = lowBits16 s.cfg.dacDataBits v
  synth : ∀ c, i.issuer ≠ .timer c → t.synth.get c = s.synth.get c
  hbPc : ∀ c, (t.heart.get c).hbPc = (s.heart.get c).hbPc
  latches : ∀ c, i.issuer ≠ .hb c → (t.heart.get c).rptCnt = (s.heart.get c).rptCnt
    ∧ (t.heart.get c).rptFreq = (s.heart.get c).rptFreq ∧ (t.heart.get c).rptFft = (s.heart.get c).rptFft
  sleepState : ∀ c, i.issuer ≠ .hb c → i.issuer ≠ .sleepTimer c →
    (t.heart.get c).sleepState = (s.heart.get c).sleepState
  go : ∀ c, t.go.get c = s.go.get c ∨ (i = .semWait c ∧ t.go.get c = false)
    ∨ (i = .semSignal c.other ∧ t.go.get c = true)
  owner : ∀ c, t.coreOwner.get c = s.coreOwner.get c ∨ (i.issuer = .hb c ∧ t.coreOwner.get c ≠ .ct)
    ∨ (c = .c0 ∧ i.issuer = .ct)
  buffers : ∀ b, i.issuer ≠ .acq ∨ b ≠ s.cap.fillSel → t.mem.store (.buf b) = s.mem.store (.buf b)
  arrays : i.issuer ≠ .ct → t.mem.re = s.mem.re ∧ t.mem.im = s.mem.im
  roles : i.issuer ≠ .ct → t.cap.fillSel = s.cap.fillSel ∧ t.cap.consSel = s.cap.consSel
  cap : i.issuer ≠ .ct → i.issuer ≠ .acq → t.cap = s.cap
  cons : i.issuer ≠ .ct → t.cons = s.cons
  ctPc : t.cons.ctPc = s.cons.ctPc
  maxFrequency : i.issuer ≠ .ct → t.tele.maxFrequency = s.tele.maxFrequency
  fftCount : (∀ c, i.issuer ≠ .hb c) → i.issuer ≠ .ct → t.tele.fftCount = s.tele.fftCount
  pingPong : (∀ c, i.issuer ≠ .hb c) → t.tele.pingPong = s.tele.pingPong

namespace Frame

variable {i : Instr} {s t u : State}

/-- The ports, the record of outputs and the draws are nobody's registers (R52). -/
theorem ports (i : Instr) (s : State) (reply : Option Reply) (emitted : List Output) (draws : Nat) :
    Frame i s { s with reply := reply, emitted := emitted, draws := draws } where
  runState := rfl
  cfg := rfl
  attackInc := rfl
  decayInc := rfl
  agent := rfl
  conReady := rfl
  inbox := rfl
  arrivals := rfl
  cause := id
  phaseInc _ := rfl
  dacOut _ := .inl rfl
  synth _ _ := rfl
  hbPc _ := rfl
  latches _ _ := ⟨rfl, rfl, rfl⟩
  sleepState _ _ _ := rfl
  go _ := .inl rfl
  owner _ := .inl rfl
  buffers _ _ := rfl
  arrays _ := ⟨rfl, rfl⟩
  roles _ := ⟨rfl, rfl⟩
  cap _ _ := rfl
  cons _ := rfl
  ctPc := rfl
  maxFrequency _ := rfl
  fftCount _ _ := rfl
  pingPong _ := rfl

theorem refl (i : Instr) (s : State) : Frame i s s := ports i s s.reply s.emitted s.draws

theorem answer (i : Instr) (s : State) (st : Status) (res : Word) : Frame i s (s.answer st res) :=
  ports i s _ _ _

theorem emit (i : Instr) (s : State) (o : Output) : Frame i s (s.emit o) := ports i s _ _ _

/-- The changes of one operation made one after the other stay inside its frame. -/
theorem trans (h : Frame i s t) (k : Frame i t u) : Frame i s u where
  runState := k.runState.trans h.runState
  cfg := k.cfg.trans h.cfg
  attackInc := k.attackInc.trans h.attackInc
  decayInc := k.decayInc.trans h.decayInc
  agent := k.agent.trans h.agent
  conReady := k.conReady.trans h.conReady
  inbox := k.inbox.trans h.inbox
  arrivals := k.arrivals.trans h.arrivals
  cause hs := k.cause (h.cause hs)
  phaseInc c := (k.phaseInc c).trans (h.phaseInc c)
  dacOut c := by
    rcases k.dacOut c with hk | ⟨v, hv⟩
    · exact hk ▸ h.dacOut c
    · exact .inr ⟨v, h.cfg ▸ hv⟩
  synth c hc := (k.synth c hc).trans (h.synth c hc)
  hbPc c := (k.hbPc c).trans (h.hbPc c)
  latches c hc := by
    obtain ⟨h1, h2, h3⟩ := h.latches c hc
    obtain ⟨k1, k2, k3⟩ := k.latches c hc
    exact ⟨k1.trans h1, k2.trans h2, k3.trans h3⟩
  sleepState c hc hc' := (k.sleepState c hc hc').trans (h.sleepState c hc hc')
  go c := by
    rcases k.go c with hk | hk
    · exact hk ▸ h.go c
    · exact .inr hk
  owner c := by
    rcases k.owner c with hk | hk
    · exact hk ▸ h.owner c
    · exact .inr hk
  buffers b hb := by
    refine (k.buffers b ?_).trans (h.buffers b hb)
    by_cases ha : i.issuer = .acq
    · have hct : i.issuer ≠ .ct := by simp [ha]
      exact (h.roles hct).1 ▸ hb
    · exact .inl ha
  arrays hc := ⟨(k.arrays hc).1.trans (h.arrays hc).1, (k.arrays hc).2.trans (h.arrays hc).2⟩
  roles hc := ⟨(k.roles hc).1.trans (h.roles hc).1, (k.roles hc).2.trans (h.roles hc).2⟩
  cap hc ha := (k.cap hc ha).trans (h.cap hc ha)
  cons hc := (k.cons hc).trans (h.cons hc)
  ctPc := k.ctPc.trans h.ctPc
  maxFrequency hc := (k.maxFrequency hc).trans (h.maxFrequency hc)
  fftCount hh hc := (k.fftCount hh hc).trans (h.fftCount hh hc)
  pingPong hh := (k.pingPong hh).trans (h.pingPong hh)

/-- R283: raising an error touches the record of errors and the answer only. -/
theorem raise (i : Instr) (s : State) {k : Status} (hk : k.stickyBit ≠ 0) : Frame i s (s.raise k) :=
  { refl i s with cause := fun _ => s.causeRecorded_record hk }

/-- R266: a heartbeat takes or gives up its own core. -/
theorem setOwner_hb (s : State) {c : CoreId} {o : Owner} (hi : i.issuer = .hb c) (ho : o ≠ .ct) :
    Frame i s (s.setOwner c o) :=
  { refl i s with
    owner := fun d => by
      by_cases hd : d = c
      · subst hd
        exact .inr (.inl ⟨hi, by simpa using ho⟩)
      · exact .inl (Pair.get_set_ne _ _ _ _ hd) }

/-- R266: the consumer takes or gives up core 0. -/
theorem setOwner_ct (s : State) (o : Owner) (hi : i.issuer = .ct) : Frame i s (s.setOwner .c0 o) :=
  { refl i s with
    owner := fun d => by
      cases d with
      | c0 => exact .inr (.inr ⟨rfl, hi⟩)
      | c1 => exact .inl rfl }

/-- R27 to R32: a timer writes the synthesis registers of its own core, `PHASE_INC` excepted. -/
theorem setSynth (s : State) {c : CoreId} {y : Synth} (hi : i.issuer = .timer c)
    (hinc : y.phaseInc = (s.synth.get c).phaseInc)
    (hdac : y.dacOut = (s.synth.get c).dacOut ∨ ∃ v, y.dacOut = lowBits16 s.cfg.dacDataBits v) :
    Frame i s (s.setSynth c y) :=
  { refl i s with
    phaseInc := fun d => by
      by_cases hd : d = c
      · subst hd
        simpa using hinc
      · simp [Pair.get_set_ne _ _ _ _ hd]
    dacOut := fun d => by
      by_cases hd : d = c
      · subst hd
        simpa using hdac
      · simp [Pair.get_set_ne _ _ _ _ hd]
    synth := fun d hd => Pair.get_set_ne _ _ _ _ fun h => hd (h ▸ hi) }

/-- R42, R44, R46: a heartbeat writes the latches and the sleep of its own core, never its position. -/
theorem setHeart (s : State) {c : CoreId} {y : Heart} (hi : i.issuer = .hb c)
    (hpc : y.hbPc = (s.heart.get c).hbPc) : Frame i s (s.setHeart c y) :=
  { refl i s with
    hbPc := fun d => by
      by_cases hd : d = c
      · subst hd
        simpa using hpc
      · simp [Pair.get_set_ne _ _ _ _ hd]
    latches := fun d hd => by
      have hdc : d ≠ c := fun h => hd (h ▸ hi)
      simp [Pair.get_set_ne _ _ _ _ hdc]
    sleepState := fun d hd _ => by
      have hdc : d ≠ c := fun h => hd (h ▸ hi)
      simp [Pair.get_set_ne _ _ _ _ hdc] }

/-- R44: the sleep of a core belongs to its heartbeat and its sleep timer. -/
theorem setSleep (s : State) {c : CoreId} (v : SleepState) (hi : i.issuer = .hb c ∨ i.issuer = .sleepTimer c) :
    Frame i s (s.setSleep c v) :=
  { refl i s with
    hbPc := fun d => by
      by_cases hd : d = c
      · subst hd
        simp [State.setSleep]
      · simp [State.setSleep, Pair.get_set_ne _ _ _ _ hd]
    latches := fun d _ => by
      by_cases hd : d = c
      · subst hd
        simp [State.setSleep]
      · simp [State.setSleep, Pair.get_set_ne _ _ _ _ hd]
    sleepState := fun d hd hd' => by
      have hdc : d ≠ c := by
        rintro rfl
        exact hi.elim hd hd'
      simp [State.setSleep, Pair.get_set_ne _ _ _ _ hdc] }

/-- R41, R251: `SEM_WAIT` clears the semaphore of its own core. -/
theorem clearGo (s : State) (c : CoreId) : Frame (.semWait c) s { s with go := s.go.set c false } :=
  { refl (.semWait c) s with
    go := fun d => by
      by_cases hd : d = c
      · subst hd
        exact .inr (.inl ⟨rfl, Pair.get_set_same _ _ _⟩)
      · exact .inl (Pair.get_set_ne _ _ _ _ hd) }

/-- R41, R252: `SEM_SIGNAL` sets the semaphore of the other core. -/
theorem signalGo (s : State) (c : CoreId) : Frame (.semSignal c) s { s with go := s.go.set c.other true } :=
  { refl (.semSignal c) s with
    go := fun d => by
      by_cases hd : d = c.other
      · subst hd
        exact .inr (.inr ⟨by simp, Pair.get_set_same _ _ _⟩)
      · exact .inl (Pair.get_set_ne _ _ _ _ hd) }

/-- R40: the shared telemetry belongs to the heartbeats and the consumer, `MAX_FREQUENCY` to the consumer
alone and `PING_PONG` to the heartbeats alone. -/
theorem setTele (s : State) (v : Telemetry) (hfreq : i.issuer ≠ .ct → v.maxFrequency = s.tele.maxFrequency)
    (hfft : (∀ c, i.issuer ≠ .hb c) → i.issuer ≠ .ct → v.fftCount = s.tele.fftCount)
    (hping : (∀ c, i.issuer ≠ .hb c) → v.pingPong = s.tele.pingPong) : Frame i s { s with tele := v } :=
  { refl i s with maxFrequency := hfreq, fftCount := hfft, pingPong := hping }

/-- R39, R43, R45: the consumer writes its own registers, never its position. -/
theorem setCons (s : State) (k : Consumer) (hi : i.issuer = .ct) (hpc : k.ctPc = s.cons.ctPc) :
    Frame i s { s with cons := k } :=
  { refl i s with cons := fun hc => absurd hi hc, ctPc := hpc }

/-- R38: the consumer writes `RE` and `IM`. -/
theorem setArrays (s : State) (m : Memory) (hi : i.issuer = .ct)
    (hb : m.buffers = s.mem.buffers) : Frame i s { s with mem := m } :=
  { refl i s with buffers := fun b _ => Memory.store_buf_of_buffers hb b, arrays := fun hc => absurd hi hc }

/-- R35, R194: the consumer exchanges the buffers and restarts the acquisition. -/
theorem rearm (s : State) (hi : i.issuer = .ct) : Frame i s s.rearm :=
  { refl i s with
    roles := fun hc => absurd hi hc
    cap := fun hc => absurd hi hc
    buffers := fun _ _ => rfl }

/-- R34, R36, R191: the acquisition writes the buffer it fills and its own pointer and flags. -/
theorem storeSample (s : State) (opa : Word) (hi : i.issuer = .acq) : Frame i s (s.storeSample opa) :=
  { refl i s with
    buffers := fun b hb => by
      have hne : b ≠ s.cap.fillSel := hb.resolve_left (not_not_intro hi)
      exact Memory.store_write_ne _ _ _ _ _ fun h => hne (Space.buf.inj h)
    arrays := fun _ => by
      have hne : ∀ sp : Space, sp ≠ .buf s.cap.fillSel → (s.storeSample opa).mem.store sp = s.mem.store sp :=
        fun sp hsp => Memory.store_write_ne _ _ _ _ _ hsp
      exact ⟨hne .re (by simp), hne .im (by simp)⟩
    roles := fun _ => ⟨rfl, rfl⟩
    cap := fun _ ha => absurd hi ha }

end Frame

end Sys2Proof.Machine
end

section
/-! PROOFS. The frame of every operation (`spec/20_memory.md` R66). -/

namespace Sys2Proof.Machine

/-- R170: the envelope leaves the oscillator's registers alone. -/
theorem envStep_oscillator (g : Cfg) (attackInc decayInc : Word) (y : Synth) :
    (envStep g attackInc decayInc y).phaseAcc = y.phaseAcc
      ∧ (envStep g attackInc decayInc y).phaseInc = y.phaseInc
      ∧ (envStep g attackInc decayInc y).dacOut = y.dacOut := by
  unfold envStep
  cases y.envState <;> simp only <;> split <;> exact ⟨rfl, rfl, rfl⟩

namespace Frame

variable {i : Instr} {a : Agent} {s t : State}

/-- R290: a request that is not accepted is answered, and nothing but the record of errors changes; so the
frame of an operation is the frame of its body. -/
theorem of_fromIssuer {body : State → Out} (h : s.fromIssuer a body = .next t)
    (hbody : body s = .next t → Frame i s t) : Frame i s t := by
  obtain ⟨-, rfl⟩ | ⟨-, -, rfl⟩ | ⟨-, -, hb⟩ := fromIssuer_cases s t a body h
  · exact answer i s _ _
  · exact raise i s (by decide)
  · exact hbody hb

/-- The same for a body that always completes. -/
theorem of_next {f : State → State} (h : s.fromIssuer a (fun s => .next (f s)) = .next t)
    (hf : Frame i s (f s)) : Frame i s t :=
  of_fromIssuer h fun hb => Host.Outcome.next.inj hb ▸ hf

/-- The same for a body that computes a storage, keeps the sample buffers and keeps core 0 for the
consumer. -/
theorem of_withMemory (hi : i.issuer = .ct) {m : Option Memory}
    (hm : ∀ m', m = some m' → m'.buffers = s.mem.buffers)
    (h : s.withMemory m (fun s => (s.setOwner .c0 .ct).answer .ok 0) = .next t) : Frame i s t := by
  obtain ⟨m', hm', rfl⟩ := withMemory_cases s t m _ h
  exact ((setArrays s m' hi (hm m' hm')).trans (setOwner_ct _ .ct hi)).trans (answer i _ _ _)

/-- A change, then core 0 for the consumer, then an answer. -/
theorem keepCt {u : State} {o : Owner} {st : Status} {res : Word} (hi : i.issuer = .ct) (h : Frame i s u) :
    Frame i s ((u.setOwner .c0 o).answer st res) :=
  (h.trans (setOwner_ct u o hi)).trans (answer i _ _ _)

/-- A change, then the core of a heartbeat, then an answer. -/
theorem keepHb {u : State} {c : CoreId} {o : Owner} {st : Status} {res : Word} (hi : i.issuer = .hb c)
    (ho : o ≠ .ct) (h : Frame i s u) : Frame i s ((u.setOwner c o).answer st res) :=
  (h.trans (setOwner_hb u hi ho)).trans (answer i _ _ _)

/-- R165: the oscillator writes the phase and the sample. -/
theorem ddsSample (s : State) {c : CoreId} (hi : i.issuer = .timer c) : Frame i s (s.ddsSample c) :=
  setSynth s hi rfl (.inr ⟨_, rfl⟩)

/-- R170: the envelope writes neither the increment nor the sample. -/
theorem envStep (s : State) {c : CoreId} (hi : i.issuer = .timer c) : Frame i s (s.envStep c) := by
  obtain ⟨-, hinc, hdac⟩ := envStep_oscillator s.cfg s.attackInc s.decayInc (s.synth.get c)
  exact setSynth s hi hinc (.inl hdac)

/-- R175: the word sent changes no register. -/
theorem dacPush (s : State) (c : CoreId) : Frame i s (s.dacPush c) := ports i s _ _ _

/-- R253: the shared counter and its latch. -/
theorem countFiring (s : State) {c : CoreId} (hi : i.issuer = .hb c) : Frame i s (s.countFiring c) :=
  (setTele s { s.tele with pingPong := s.tele.pingPong + 1 } (fun _ => rfl) (fun _ _ => rfl)
    (fun h => absurd hi (h c))).trans (setHeart _ hi rfl)

end Frame

/-- R66: every operation that leads to a next state stays inside its frame. -/
theorem exec_frame {i : Instr} {s t : State} (h : exec i s = .next t) : Frame i s t := by
  unfold exec at h
  cases i with
  | fxFromInt opa => exact .of_next h (.answer _ s _ _)
  | fxFromFloat opa => exact .of_next h (.ports _ s _ _ _)
  | fxToFloat opa => exact .of_next h (.answer _ s _ _)
  | fxToInt opa => exact .of_next h (.answer _ s _ _)
  | fxMul opa opb => exact .of_next h (.answer _ s _ _)
  | fxDiv opa opb =>
    refine .of_fromIssuer h fun hb => ?_
    split at hb <;> cases hb
    · exact .raise _ s (by decide)
    · exact .answer _ s _ _
  | fxAbs opa => exact .of_next h (.answer _ s _ _)
  | sinDds opa => exact .of_next h (.answer _ s _ _)
  | sinFft opa => exact .of_next h (.answer _ s _ _)
  | cosFft opa => exact .of_next h (.answer _ s _ _)
  | hannRd opa => exact .of_next h (.answer _ s _ _)
  | ddsTick c => exact .of_next h (((Frame.ddsSample s rfl).trans (.envStep _ rfl)).trans (.dacPush _ c))
  | ddsSample c => exact .of_next h ((Frame.ddsSample s rfl).trans (.answer _ _ _ _))
  | dacPush c => exact .of_next h (.dacPush s c)
  | envStep c => exact .of_next h ((Frame.envStep s rfl).trans (.answer _ _ _ _))
  | acqPush opa =>
    refine .of_fromIssuer h fun hb => ?_
    split at hb
    · cases hb
      exact .answer _ s _ _
    · split at hb <;> cases hb
      exact (Frame.storeSample s opa rfl).trans (.answer _ _ _ _)
  | capWait => exact .of_next h (.keepCt rfl (.refl _ s))
  | capRearm =>
    refine .of_fromIssuer h fun hb => ?_
    split at hb <;> cases hb
    · exact .keepCt rfl (.rearm s rfl)
    · exact .keepCt rfl (.refl _ s)
  | winLoad => exact .of_fromIssuer h (.of_withMemory rfl fun _ => windowLoad_buffers)
  | fftBitrev => exact .of_fromIssuer h (.of_withMemory rfl fun _ => bitrevAll_buffers)
  | fftPass opa =>
    refine .of_fromIssuer h fun hb => ?_
    split at hb
    · exact .of_withMemory rfl (fun _ => fftPass_buffers) hb
    · cases hb
      exact .raise _ s (by decide)
  | fftRun => exact .of_fromIssuer h (.of_withMemory rfl fun _ => fftRun_buffers)
  | mag opa opb => exact .of_next h (.answer _ s _ _)
  | peakScan =>
    refine .of_fromIssuer h fun hb => ?_
    split at hb <;> cases hb
    exact .keepCt rfl (.setCons s _ rfl rfl)
  | pubFreq =>
    exact .of_next h (.keepCt rfl (.setTele s _ (fun hc => absurd rfl hc) (fun _ _ => rfl) (fun _ => rfl)))
  | pubCntLd => exact .of_next h (.keepCt rfl (.setCons s _ rfl rfl))
  | pubCntSt =>
    exact .of_next h (.keepCt rfl (.setTele s _ (fun _ => rfl) (fun _ hc => absurd rfl hc) (fun _ => rfl)))
  | semWait c =>
    refine .of_fromIssuer h fun hb => ?_
    split at hb <;> cases hb
    · exact .keepHb rfl (by decide) (.clearGo s c)
    · exact .keepHb rfl (by decide) (.refl _ s)
  | semSignal c => exact .of_next h (.keepHb rfl (by decide) (.signalGo s c))
  | hbCount c => exact .of_next h (.keepHb rfl (by decide) (.countFiring s rfl))
  | hbRdFreq c => exact .of_next h (.keepHb rfl (by decide) (.setHeart s rfl rfl))
  | hbRdFft c => exact .of_next h (.keepHb rfl (by decide) (.setHeart s rfl rfl))
  | hbEmit c =>
    refine .of_fromIssuer h fun hb => ?_
    split at hb <;> cases hb
    · exact .keepHb rfl (by decide) (.emit _ s _)
    · exact (Frame.raise _ s (by decide)).trans (.setOwner_hb _ rfl (by decide))
  | hbClear c =>
    exact .of_next h (.keepHb rfl (by decide)
      (.setTele s _ (fun _ => rfl) (fun hh _ => absurd rfl (hh c)) (fun _ => rfl)))
  | hbSleep c =>
    refine .of_fromIssuer h fun hb => ?_
    split at hb <;> cases hb
    · exact .keepHb rfl (by decide) (.setSleep s _ (.inl rfl))
    · exact .keepHb rfl (by decide) (.refl _ s)
    · exact .keepHb rfl (by decide) (.setSleep s _ (.inl rfl))
  | sleepExpire c =>
    refine .of_fromIssuer h fun hb => ?_
    split at hb <;> cases hb
    · exact .answer _ s _ _
    · exact (Frame.setSleep s _ (.inr rfl)).trans (.answer _ _ _ _)
    · exact .answer _ s _ _

/-- R41: a semaphore is written by `SEM_WAIT` of its own core and `SEM_SIGNAL` of the other only. -/
theorem Frame.go_owned {i : Instr} {s t : State} (hf : Frame i s t) (c : CoreId) :
    t.go.get c = s.go.get c ∨ (i.issuer = .hb c ∧ t.go.get c = false)
      ∨ (i.issuer = .hb c.other ∧ t.go.get c = true) := by
  obtain h | ⟨rfl, h⟩ | ⟨rfl, h⟩ := hf.go c
  · exact .inl h
  · exact .inr (.inl ⟨rfl, h⟩)
  · exact .inr (.inr ⟨rfl, h⟩)

/-- R47: the owner of a core is written by its heartbeat, and of core 0 by the consumer. -/
theorem Frame.owner_eq {i : Instr} {s t : State} (hf : Frame i s t) (c : CoreId) (hhb : i.issuer ≠ .hb c)
    (hct : c = .c0 → i.issuer ≠ .ct) : t.coreOwner.get c = s.coreOwner.get c := by
  obtain h | ⟨h, -⟩ | ⟨hc, h⟩ := hf.owner c
  · exact h
  · exact absurd h hhb
  · exact absurd h (hct hc)

/-- Settles O10: the frame of the operation, read element by element. -/
theorem ownershipFrame : Obligations.OwnershipFrame := by
  unfold Obligations.OwnershipFrame
  intro i s t h
  have hf : Frame i s t := exec_frame h
  refine ⟨⟨hf.runState, hf.cfg, hf.attackInc, hf.decayInc, hf.agent, hf.conReady, hf.inbox, hf.arrivals⟩,
    fun c => ⟨hf.phaseInc c, hf.synth c, hf.hbPc c, hf.latches c, hf.sleepState c, hf.go_owned c,
      hf.owner_eq c⟩,
    fun b k hb => ?_, fun hct => ?_, hf.cap, hf.ctPc, fun hhb => ⟨hf.pingPong hhb, hf.fftCount hhb⟩⟩
  · simp only [Memory.read, hf.buffers b hb]
  · obtain ⟨hre, him⟩ := hf.arrays hct
    obtain ⟨hfill, hcons⟩ := hf.roles hct
    refine ⟨hfill, hcons, fun k => ⟨?_, ?_⟩, hf.cons hct, hf.maxFrequency hct⟩
    · simp only [Memory.read, Memory.store, hre]
    · simp only [Memory.read, Memory.store, him]

end Sys2Proof.Machine
end

section
/-! PROOFS. What an accepted operation does (`spec/60_exceptions.md` R290), for the operations on storage, the
tick and the tasks' own operations; and from it the reads of unwritten storage (`spec/20_memory.md` R73) and
what a tick reads (`spec/43_dds_envelope.md` R179). -/

namespace Sys2Proof.Machine

section

variable {s : State}

/-! ### Accepted operations -/

theorem exec_winLoad_ready (h : s.readyFor .winLoad) : exec .winLoad s
    = s.withMemory (windowLoad s.cfg.n s.cap.consSel s.mem) fun s => (s.setOwner .c0 .ct).answer .ok 0 := by
  unfold exec
  exact fromIssuer_ready s _ _ h.1 h.2

theorem exec_fftBitrev_ready (h : s.readyFor .fftBitrev) : exec .fftBitrev s
    = s.withMemory (bitrevAll s.cfg.n s.mem) fun s => (s.setOwner .c0 .ct).answer .ok 0 := by
  unfold exec
  exact fromIssuer_ready s _ _ h.1 h.2

theorem exec_fftPass_ready {l : Word} (h : s.readyFor (.fftPass l))
    (hl : legalPassLength s.cfg.n l.toNat = true) : exec (.fftPass l) s
    = s.withMemory (fftPass s.cfg.n l.toNat s.mem) fun s => (s.setOwner .c0 .ct).answer .ok 0 := by
  unfold exec
  exact (fromIssuer_ready s _ _ h.1 h.2).trans (if_pos hl)

theorem exec_fftRun_ready (h : s.readyFor .fftRun) : exec .fftRun s
    = s.withMemory (fftRun s.cfg.n s.mem) fun s => (s.setOwner .c0 .ct).answer .ok 0 := by
  unfold exec
  exact fromIssuer_ready s _ _ h.1 h.2

theorem exec_peakScan_ready_none (h : s.readyFor .peakScan) (hm : peakSearch s.cfg s.mem = none) :
    exec .peakScan s = .fault .readUnwritten := by
  show execPeakScan s = _
  rw [execPeakScan, fromIssuer_ready s .ct _ h.1 h.2, hm]

theorem exec_peakScan_ready_some (h : s.readyFor .peakScan) {mag : Word} {k : Nat}
    (hm : peakSearch s.cfg s.mem = some (mag, k)) :
    exec .peakScan s = .next
      (({ s with cons := { s.cons with maxMag := mag, maxIdx := BitVec.ofNat 16 k } }.setOwner .c0 .ct).answer
        .ok (BitVec.ofNat 32 k)) := by
  show execPeakScan s = _
  rw [execPeakScan, fromIssuer_ready s .ct _ h.1 h.2, hm]

theorem exec_ddsTick_ready {c : CoreId} (h : s.readyFor (.ddsTick c)) :
    exec (.ddsTick c) s = .next (((s.ddsSample c).envStep c).dacPush c) := by
  unfold exec
  exact fromIssuer_ready s _ _ h.1 h.2

end

/-! ### Unwritten storage -/

/-- R326 (a): an accepted configuration has a power of two of points. -/
theorem isPow2_of_accepted {g : Cfg} (hc : configError g = false) : isPow2 g.n = true := by
  by_contra hn
  simp [configError, hn] at hc

/-- R326 (a): an accepted configuration has at most 65536 points. -/
theorem n_le_of_accepted {g : Cfg} (hc : configError g = false) : g.n ≤ 65536 := by
  by_contra hn
  have hbig : decide (65536 < g.n) = true := decide_eq_true (Nat.lt_of_not_le hn)
  simp [configError, hbig] at hc

/-- R73: a loop that does not go through stops the evaluation. -/
theorem withMemory_fault (s : State) {m : Option Memory} (k : State → State) (h : ¬ m.isSome = true) :
    s.withMemory m k = .fault .readUnwritten := by
  obtain rfl : m = none := by simpa using h
  rfl

theorem not_written_of_none {m : Memory} {i : Nat} (h : m.read .re i = none ∨ m.read .im i = none) :
    ¬ (m.written .re i = true ∧ m.written .im i = true) := by
  rintro ⟨hre, him⟩
  rcases h with h | h
  · simp [Memory.written, h] at hre
  · simp [Memory.written, h] at him

theorem not_filled_of_none {m : Memory} {n i : Nat} (hi : i < n) (h : m.read .re i = none ∨ m.read .im i = none) :
    ¬ (m.filled .re n ∧ m.filled .im n) :=
  fun hf => not_written_of_none h ⟨hf.1 i hi, hf.2 i hi⟩

/-- Settles O31: each loop completes only if the elements it needs are written. -/
theorem unwrittenReadFaults : Obligations.UnwrittenReadFaults := by
  unfold Obligations.UnwrittenReadFaults
  intro s i hc
  have hpow : isPow2 s.cfg.n = true := isPow2_of_accepted hc
  have h4 : 4 ≤ s.cfg.n := four_le_n_of_accepted hc
  refine ⟨fun hr hi hnone => ?_, fun hr hi hnone => ?_, fun hr h1 hi hmove hnone => ?_,
    fun l hr hl hi hnone => ?_, fun hr hi hnone => ?_⟩
  · rw [exec_winLoad_ready hr]
    refine withMemory_fault s _ fun h => ?_
    have hsome := (windowLoad_isSome_iff _ _ _).1 h i hi
    simp [hnone] at hsome
  · refine exec_peakScan_ready_none hr (Option.not_isSome_iff_eq_none.1 fun h => ?_)
    exact not_written_of_none hnone ((peakSearch_isSome_iff _ _).1 h i hi)
  · rw [exec_fftBitrev_ready hr]
    exact withMemory_fault s _ fun h => not_written_of_none hnone (written_of_bitrevAll hpow h h1 hi hmove)
  · rw [exec_fftPass_ready hr hl]
    exact withMemory_fault s _ fun h =>
      not_filled_of_none hi hnone ((fftPass_isSome_iff (two_mul_dvd_of_legal hpow hl) _).1 h)
  · rw [exec_fftRun_ready hr]
    exact withMemory_fault s _ fun h =>
      not_filled_of_none hi hnone ((fftRun_isSome_iff hpow (by omega) _).1 h)

/-! ### What a tick reads -/

/-- R165, R170, R178: the synthesis registers of a core after a tick, from the configuration, the increments and
the registers before it. -/
def tickSynth (g : Cfg) (attackInc decayInc : Word) (y : Synth) : Synth :=
  envStep g attackInc decayInc (ddsSample g y)

section

variable (s : State) (c : CoreId)

theorem tick_synth : (((s.ddsSample c).envStep c).dacPush c).synth.get c
    = tickSynth s.cfg s.attackInc s.decayInc (s.synth.get c) := by
  simp [State.dacPush, State.envStep, State.ddsSample, tickSynth]

theorem tick_reply : (((s.ddsSample c).envStep c).dacPush c).reply
    = some ⟨(dacWord s.cfg c (tickSynth s.cfg s.attackInc s.decayInc (s.synth.get c))).setWidth 32, .ok⟩ := by
  simp [State.dacPush, State.envStep, State.ddsSample, tickSynth]

theorem tick_emitted : (((s.ddsSample c).envStep c).dacPush c).emitted
    = .dac (dacWord s.cfg c (tickSynth s.cfg s.attackInc s.decayInc (s.synth.get c))) :: s.emitted := by
  simp [State.dacPush, State.envStep, State.ddsSample, tickSynth]

end

/-- Settles O26: registers, answer and emitted word of a tick are those `tickSynth` gives, a function of what
the two states agree on. -/
theorem tickReadsOnlyItsOwnCore : Obligations.TickReadsOnlyItsOwnCore := by
  unfold Obligations.TickReadsOnlyItsOwnCore
  intro c s t s' t' hr hr' hcfg hattack hdecay hsynth ht ht'
  rw [exec_ddsTick_ready hr] at ht
  rw [exec_ddsTick_ready hr'] at ht'
  cases ht
  cases ht'
  refine ⟨?_, ?_, ?_⟩
  · rw [tick_synth, tick_synth, hcfg, hattack, hdecay, hsynth]
  · rw [tick_reply, tick_reply, hcfg, hattack, hdecay, hsynth]
  · rw [tick_emitted, tick_emitted, hcfg, hattack, hdecay, hsynth]
    rfl

end Sys2Proof.Machine
end

section
/-! PROOFS. The invariant of the block is kept by every step (`spec/60_exceptions.md` R292). The running block's
part is cut into what no operation can break without writing outside its frame (`BaseInv`), the capture of an
epoch and its consumer (`EpochInv`), the owners of the cores, and the token. -/

namespace Sys2Proof.Machine

/-! ### The parts of the invariant -/

/-- What the invariant of a running block says of the registers other than those of an epoch, the owners and the
token. -/
structure BaseInv (s : State) : Prop where
  running : s.runState = .running
  occurs : s.inboxOccurs
  cause : s.causeRecorded
  config : configError s.cfg = false
  increments : s.attackInc = div s.cfg.maxAmplitude (fromInt s.cfg.attackTime)
    ∧ s.decayInc = div s.cfg.maxAmplitude (fromInt s.cfg.decayTime)
  phaseIncrement : ∀ c, (s.synth.get c).phaseInc = s.cfg.phaseIncInit.get c
  dac : ∀ c, (s.synth.get c).dacOut.toNat < 2 ^ s.cfg.dacDataBits

/-- What the invariant of a running block says of an epoch: the buffer being filled, the one handed over, the
arrays, and the consumer that works on them. -/
structure EpochInv (g : Cfg) (cap : Capture) (m : Memory) (k : Consumer) : Prop where
  canonical : m.wf g.n
  buffers : cap.fillSel ≠ cap.consSel
  bounded : cap.wrPtr.toNat ≤ g.n
  capture : cap.armed = !cap.epochDone
  pointer : cap.armed = true → cap.wrPtr.toNat < g.n
  gathered : m.filled (.buf cap.fillSel) cap.wrPtr.toNat
  complete : cap.epochDone = true → cap.wrPtr.toNat = g.n
  waited : k.ctPc = 1 → cap.epochDone = true
  handed : k.ctPc = 2 → m.filled (.buf cap.consSel) g.n
  loaded : 3 ≤ k.ctPc.toNat → m.filled .re g.n ∧ m.filled .im g.n
  peak : k.maxIdx.toNat < g.n
  samples : ∀ p ∈ m.buf0 ++ m.buf1, p.2.toNat < 2 ^ g.sampleBits

/-- The invariant of a running block but for the token. -/
structure RunningInv (s : State) : Prop where
  base : BaseInv s
  owner1 : s.coreOwner.at1 ≠ .ct
  owner0 : 2 ≤ s.cons.ctPc.toNat → s.coreOwner.at0 = .ct
  epoch : EpochInv s.cfg s.cap s.mem s.cons

section

variable {s t : State} {i : Instr}

theorem State.Inv.runningInv (h : s.Inv) (hr : s.runState = .running) : RunningInv s :=
  have r := h.running hr
  { base :=
      { running := hr
        occurs := h.occurs
        cause := h.cause
        config := r.config
        increments := r.increments
        phaseIncrement := fun c => by
          cases c with
          | c0 => exact r.phaseIncrement.1
          | c1 => exact r.phaseIncrement.2
        dac := fun c => by
          cases c with
          | c0 => exact h.dac.1
          | c1 => exact h.dac.2 }
    owner1 := h.owner1
    owner0 := h.owner0
    epoch :=
      { canonical := h.canonical
        buffers := h.buffers
        bounded := h.pointer
        capture := r.capture
        pointer := r.pointer
        gathered := r.gathered
        complete := r.complete
        waited := r.waited
        handed := r.handed
        loaded := r.loaded
        peak := r.peak
        samples := r.samples } }

theorem RunningInv.inv (h : RunningInv s) (htoken : s.tokens = 1) : s.Inv where
  occurs := h.base.occurs
  token := htoken
  canonical := h.epoch.canonical
  cause := h.base.cause
  buffers := h.epoch.buffers
  pointer := h.epoch.bounded
  owner1 := h.owner1
  owner0 := h.owner0
  dac := ⟨h.base.dac .c0, h.base.dac .c1⟩
  running := fun _ =>
    { config := h.base.config
      increments := h.base.increments
      phaseIncrement := ⟨h.base.phaseIncrement .c0, h.base.phaseIncrement .c1⟩
      capture := h.epoch.capture
      pointer := h.epoch.pointer
      gathered := h.epoch.gathered
      complete := h.epoch.complete
      waited := h.epoch.waited
      handed := h.epoch.handed
      loaded := h.epoch.loaded
      peak := h.epoch.peak
      samples := h.epoch.samples }
  initial := fun hi => by simp [h.base.running] at hi
  halted := fun hh => by simp [h.base.running] at hh

/-- R165: the low `bits` bits of a word fit in `bits` bits. -/
theorem lowBits16_lt (bits : Nat) (v : Word) : (lowBits16 bits v).toNat < 2 ^ bits := by
  rw [lowBits16, BitVec.toNat_ofNat]
  exact Nat.lt_of_le_of_lt (Nat.mod_le _ _) (Nat.mod_lt _ (Nat.two_pow_pos bits))

/-- R191: a sample has `bits` bits. -/
theorem sampleOperand_lt (bits : Nat) (v : Word) : (sampleOperand bits v).toNat < 2 ^ bits := by
  rw [sampleOperand, BitVec.toNat_ofNat]
  exact Nat.lt_of_le_of_lt (Nat.mod_le _ _) (Nat.mod_lt _ (Nat.two_pow_pos bits))

/-- No operation breaks what `BaseInv` says. -/
theorem BaseInv.of_frame (h : BaseInv s) (hf : Frame i s t) : BaseInv t where
  running := hf.runState.trans h.running
  occurs := fun e he => h.occurs e (hf.inbox ▸ he)
  cause := hf.cause h.cause
  config := hf.cfg ▸ h.config
  increments := by
    rw [hf.attackInc, hf.decayInc, hf.cfg]
    exact h.increments
  phaseIncrement c := by
    rw [hf.phaseInc, hf.cfg]
    exact h.phaseIncrement c
  dac c := by
    rw [hf.cfg]
    obtain heq | ⟨v, hv⟩ := hf.dacOut c
    · exact heq ▸ h.dac c
    · exact hv ▸ lowBits16_lt _ v

/-- A sequencer's advance writes its own position only (R273). -/
theorem BaseInv.advance (h : BaseInv s) (task : Task) : BaseInv (s.advance task) := by
  cases task <;> exact { h with running := h.running }

/-- R266: the operations that neither sample nor consume keep the rest of the invariant, where a heartbeat that issues
one does not take its core from the consumer. -/
theorem RunningInv.of_frame (h : RunningInv s) (hf : Frame i s t) (hacq : i.issuer ≠ .acq) (hct : i.issuer ≠ .ct)
    (hcore : ∀ c, i.issuer = .hb c → s.coreOwner.get c ≠ .ct) : RunningInv t := by
  have hcons : t.cons = s.cons := hf.cons hct
  have hmem : t.mem = s.mem := Memory.ext_store fun sp => by
    cases sp with
    | buf b => exact hf.buffers b (.inl hacq)
    | re => exact (hf.arrays hct).1
    | im => exact (hf.arrays hct).2
  refine ⟨h.base.of_frame hf, ?_, fun hpc => ?_, ?_⟩
  · obtain heq | ⟨-, hne⟩ | ⟨hc, -⟩ := hf.owner .c1
    · exact fun hbad => h.owner1 (heq.symm.trans hbad)
    · exact hne
    · cases hc
  · have hs : s.coreOwner.at0 = .ct := h.owner0 (hcons ▸ hpc)
    exact (hf.owner_eq .c0 (fun hi => hcore .c0 hi hs) fun _ => hct).trans hs
  · rw [hf.cfg, hf.cap hct hacq, hmem, hcons]
    exact h.epoch

/-! ### The token (R268) -/

/-- The tokens a core holds: its semaphore and its heartbeat's position. -/
def coreTokens (go : Bool) (pc : BitVec 3) : Nat := (if go then 1 else 0) + (if pc = 0 then 0 else 1)

theorem State.tokens_eq (s : State) (c : CoreId) : s.tokens = coreTokens (s.go.get c) (s.heart.get c).hbPc
    + coreTokens (s.go.get c.other) (s.heart.get c.other).hbPc := by
  have hsum : s.tokens = coreTokens s.go.at0 s.heart.at0.hbPc + coreTokens s.go.at1 s.heart.at1.hbPc :=
    (Nat.add_assoc _ _ _).trans (Nat.add_add_add_comm _ _ _ _)
  cases c with
  | c0 => exact hsum
  | c1 => exact hsum.trans (Nat.add_comm _ _)

/-- The position of a task in its body is the token, wherever in the body it is. -/
theorem coreTokens_next (go : Bool) {p : BitVec 3} (h0 : p ≠ 0) (h7 : p ≠ 7) :
    coreTokens go (p + 1) = coreTokens go p := by
  revert go p
  decide

/-- A token held at position 7 is the only one, so the core's own semaphore is clear and the other core holds
nothing. -/
theorem coreTokens_signal {go go' : Bool} {p : BitVec 3} (h : coreTokens go 7 + coreTokens go' p = 1) :
    coreTokens go 0 + coreTokens true p = 1 := by
  revert go go' p
  decide

theorem State.tokens_congr (hgo : ∀ c, t.go.get c = s.go.get c)
    (hpc : ∀ c, (t.heart.get c).hbPc = (s.heart.get c).hbPc) : t.tokens = s.tokens := by
  simp only [State.tokens_eq _ .c0, hgo, hpc]

/-- Only a heartbeat moves the token. -/
theorem Frame.tokens_eq (hf : Frame i s t) (hhb : ∀ c, i.issuer ≠ .hb c) : t.tokens = s.tokens :=
  State.tokens_congr (fun c => (hf.go_owned c).resolve_right fun h => h.elim (fun h => hhb _ h.1) fun h => hhb _ h.1)
    hf.hbPc

/-! ### The ports, reset and initialisation -/

/-- The invariant does not speak of the ports, the outputs, the draws and, beyond R96, of the events to come. -/
theorem State.Inv.of_ports (h : s.Inv)
    (ht : t = { s with
      agent := t.agent
      conReady := t.conReady
      reply := t.reply
      emitted := t.emitted
      inbox := t.inbox
      arrivals := t.arrivals
      draws := t.draws })
    (hin : t.inboxOccurs) : t.Inv := by
  rw [ht]
  exact
    { occurs := hin
      token := h.token
      canonical := h.canonical
      cause := h.cause
      buffers := h.buffers
      pointer := h.pointer
      owner1 := h.owner1
      owner0 := h.owner0
      dac := h.dac
      running := fun hr => { h.running hr with config := (h.running hr).config }
      initial := fun hi => by
        rw [h.initial hi]
        rfl
      halted := fun hh => by
        rw [h.halted hh]
        rfl }

theorem State.Inv.answer (h : s.Inv) (st : Status) (res : Word) : (s.answer st res).Inv := h.of_ports rfl h.occurs

theorem State.Inv.noReply (h : s.Inv) : ({ s with reply := none } : State).Inv := h.of_ports rfl h.occurs

theorem State.Inv.opened (h : s.Inv) (a : Agent) (conReady : Bool) : (s.open a conReady).Inv :=
  h.of_ports rfl h.occurs

/-- R320: a held block meets the invariant. -/
theorem State.inv_holdReset (h : s.inboxOccurs) : s.holdReset.Inv where
  occurs := h
  token := rfl
  canonical := Memory.wf_empty _
  cause := ⟨Nat.zero_le 4, fun hc => absurd rfl hc⟩
  buffers := by simp [State.holdReset, State.held]
  pointer := Nat.zero_le _
  owner1 := by simp [State.holdReset, State.held]
  owner0 := fun hpc => absurd hpc (by decide : ¬ 2 ≤ (0 : BitVec 3).toNat)
  dac := ⟨Nat.two_pow_pos _, Nat.two_pow_pos _⟩
  running := fun hr => by cases hr
  initial := fun _ => rfl
  halted := fun hh => by cases hh

/-- R328: a block that halts in the sequence meets the invariant. -/
theorem State.inv_halt_held (h : s.inboxOccurs) (g : Cfg) {k : Status} (hk : k.stickyBit ≠ 0) :
    ((({ s.holdReset with reply := none } : State).sampleConfig g).halt k).Inv where
  occurs := h
  token := rfl
  canonical := Memory.wf_empty _
  cause := State.causeRecorded_record _ hk
  buffers := (State.inv_holdReset h).buffers
  pointer := Nat.zero_le _
  owner1 := (State.inv_holdReset h).owner1
  owner0 := (State.inv_holdReset h).owner0
  dac := ⟨Nat.two_pow_pos _, Nat.two_pow_pos _⟩
  running := fun hr => by cases hr
  initial := fun hi => by cases hi
  halted := fun _ => rfl

/-- R322: the release of reset keeps the invariant, whatever the configuration. -/
theorem State.Inv.initialise (h : s.Inv) (hinit : s.runState = .init) (g : Cfg) :
    (({ s with reply := none } : State).initialise g).Inv := by
  have heldAs : ({ s with reply := none } : State) = { s.holdReset with reply := none } :=
    congrArg (fun x : State => { x with reply := none }) (h.initial hinit)
  rw [heldAs]
  obtain ⟨-, hrun⟩ | ⟨-, -, hrun⟩ | ⟨hc, -, hrun⟩ :=
    State.initialise_cases { s.holdReset with reply := none } g
  · exact hrun ▸ State.inv_halt_held h.occurs g (by decide)
  · exact hrun ▸ State.inv_halt_held h.occurs g (by decide)
  · exact hrun ▸ State.inv_start hc rfl h.occurs ⟨Nat.two_pow_pos _, Nat.two_pow_pos _⟩

/-! ### Which operations complete -/

/-- R290: every operation starts with the same checks. -/
theorem exec_checks (i : Instr) : ∃ body, ∀ s, exec i s = s.fromIssuer i.issuer body := by
  cases i <;> exact ⟨_, fun _ => rfl⟩

theorem exec_stopped (i : Instr) (hr : s.runState ≠ .running) : exec i s = .next (s.answer .notRunning 0) := by
  obtain ⟨body, hbody⟩ := exec_checks i
  rw [hbody, fromIssuer_stopped s _ _ hr]

theorem exec_wrongIssuer (hr : s.runState = .running) (ha : s.agent ≠ i.issuer) :
    exec i s = .next (s.raise .illcmd) := by
  obtain ⟨body, hbody⟩ := exec_checks i
  rw [hbody, fromIssuer_wrong s _ _ hr ha]

theorem fromIssuer_completes {a : Agent} {body : State → Out} (h : ∃ t, body s = .next t) :
    ∃ t, s.fromIssuer a body = .next t := by
  rw [fromIssuer_eq]
  split
  · split
    · exact h
    · exact ⟨_, rfl⟩
  · exact ⟨_, rfl⟩

/-- An operation that does not touch storage completes. -/
theorem exec_completes (hacq : i.issuer ≠ .acq) (hct : i.issuer ≠ .ct) : ∃ t, exec i s = .next t := by
  unfold exec
  cases i with
  | fxDiv opa opb =>
    refine fromIssuer_completes ?_
    split <;> exact ⟨_, rfl⟩
  | semWait c =>
    refine fromIssuer_completes ?_
    split <;> exact ⟨_, rfl⟩
  | hbEmit c =>
    refine fromIssuer_completes ?_
    split <;> exact ⟨_, rfl⟩
  | hbSleep c =>
    refine fromIssuer_completes ?_
    split <;> exact ⟨_, rfl⟩
  | sleepExpire c =>
    refine fromIssuer_completes ?_
    split <;> exact ⟨_, rfl⟩
  | acqPush opa => exact absurd rfl hacq
  | capWait | capRearm | winLoad | fftBitrev | fftPass | fftRun | peakScan | pubFreq | pubCntLd | pubCntSt =>
    exact absurd rfl hct
  | _ => exact fromIssuer_completes ⟨_, rfl⟩

/-! ### Requests from outside -/

/-- R34: what stands in the buffers after a write to one of them. -/
theorem mem_buffers_write (m : Memory) (b : BufSel) (j : Nat) (v : Word) {p : Nat × Word}
    (hp : p ∈ (m.write (.buf b) j v).buf0 ++ (m.write (.buf b) j v).buf1) :
    p = (j, v) ∨ p ∈ m.buf0 ++ m.buf1 := by
  rw [List.mem_append] at hp ⊢
  cases b with
  | buf0 =>
    rcases hp with hp | hp
    · exact (mem_writeStore _ _ _ _ hp).imp_right .inl
    · exact .inr (.inr hp)
  | buf1 =>
    rcases hp with hp | hp
    · exact .inr (.inl hp)
    · exact (mem_writeStore _ _ _ _ hp).imp_right .inr

/-- R191: a stored sample keeps what the invariant says of an epoch. -/
theorem EpochInv.storeSample (h : EpochInv s.cfg s.cap s.mem s.cons) (hn : s.cfg.n ≤ 65536)
    (harmed : s.cap.armed = true) (opa : Word) :
    EpochInv s.cfg (s.storeSample opa).cap (s.storeSample opa).mem s.cons := by
  have hlt : s.cap.wrPtr.toNat < s.cfg.n := h.pointer harmed
  have hdone : s.cap.epochDone = false := by simpa [harmed] using h.capture
  have hptr : (s.cap.wrPtr + 1).toNat = s.cap.wrPtr.toNat + 1 := by
    rw [BitVec.toNat_add, Nat.mod_eq_of_lt (by simp; omega)]
    rfl
  have hmono : ∀ {sp : Space} {k : Nat}, s.mem.filled sp k → (s.storeSample opa).mem.filled sp k :=
    fun hf j hj => Memory.written_write_mono _ _ _ _ _ _ (hf j hj)
  exact
    { canonical := storeSample_wf s opa hlt h.canonical
      buffers := h.buffers
      bounded := by
        show (s.cap.wrPtr + 1).toNat ≤ s.cfg.n
        omega
      capture := by simp [State.storeSample, hdone]
      pointer := fun hstill => by
        have hne : (s.cap.wrPtr + 1).toNat ≠ s.cfg.n := by simpa [State.storeSample] using hstill
        show (s.cap.wrPtr + 1).toNat < s.cfg.n
        omega
      gathered := fun j hj => by
        have hj' : j < s.cap.wrPtr.toNat + 1 := hptr ▸ hj
        rcases Nat.lt_succ_iff_lt_or_eq.1 hj' with hold | rfl
        · exact hmono h.gathered j hold
        · exact Memory.written_write_same _ _ _ _
      complete := fun hfull => by simpa [State.storeSample, hdone] using hfull
      waited := fun hpc => by simp [h.waited hpc] at hdone
      handed := fun hpc => hmono (h.handed hpc)
      loaded := fun hpc => ⟨hmono (h.loaded hpc).1, hmono (h.loaded hpc).2⟩
      peak := h.peak
      samples := fun p hp => by
        have hp' := mem_buffers_write s.mem s.cap.fillSel s.cap.wrPtr.toNat
          (sampleOperand s.cfg.sampleBits opa) hp
        rcases hp' with rfl | hp'
        · exact sampleOperand_lt _ _
        · exact h.samples p hp' }

/-- R191: a sample from the acquisition is stored or dropped. -/
theorem exec_acqPush_cases {opa : Word} (h : s.readyFor (.acqPush opa))
    (hp : s.cap.armed = true → s.cap.wrPtr.toNat < s.cfg.n) :
    exec (.acqPush opa) s = .next (s.answer .ok 0)
      ∨ s.cap.armed = true ∧ exec (.acqPush opa) s = .next ((s.storeSample opa).answer .ok 0) := by
  show execAcqPush opa s = _ ∨ _ ∧ execAcqPush opa s = _
  rw [execAcqPush, fromIssuer_ready s .acq _ h.1 h.2]
  cases harmed : s.cap.armed with
  | false => exact .inl rfl
  | true => exact .inr ⟨rfl, if_pos (hp harmed)⟩

/-- R191: the acquisition never stops the block. -/
theorem inv_acqPush (h : s.Inv) {opa : Word} (hr : s.readyFor (.acqPush opa)) :
    ∃ t, exec (.acqPush opa) s = .next t ∧ t.Inv := by
  have hrun : RunningInv s := h.runningInv hr.1
  obtain hdrop | ⟨harmed, hstore⟩ := exec_acqPush_cases hr hrun.epoch.pointer
  · exact ⟨_, hdrop, h.answer _ _⟩
  · have hf : Frame (.acqPush opa) s _ := exec_frame hstore
    refine ⟨_, hstore, RunningInv.inv ⟨hrun.base.of_frame hf, hrun.owner1, hrun.owner0, ?_⟩ ?_⟩
    · exact hrun.epoch.storeSample (n_le_of_accepted hrun.base.config) harmed opa
    · exact (hf.tokens_eq (by simp [Instr.issuer])).trans h.token

/-- R283: an error that is recorded breaks nothing. Its record is inside every operation's frame, here one of the
host's. -/
theorem State.Inv.raise (h : s.Inv) (hr : s.runState = .running) {k : Status} (hk : k.stickyBit ≠ 0) :
    (s.raise k).Inv := by
  have hf : Frame (.fxAbs 0) s (s.raise k) := Frame.raise _ s hk
  exact ((h.runningInv hr).of_frame hf (by decide) (by decide) (by simp [Instr.issuer])).inv
    ((hf.tokens_eq (by simp [Instr.issuer])).trans h.token)

/-- R96: a request of an agent from outside is served and keeps the invariant. -/
theorem inv_exec_external (h : s.Inv) (ha : s.agent.external = true) (i : Instr) :
    ∃ t, exec i s = .next t ∧ t.Inv := by
  by_cases hr : s.runState = .running
  · by_cases hi : s.agent = i.issuer
    · have hct : i.issuer ≠ .ct := fun hc => by simp [hi, hc, Agent.external] at ha
      have hhb : ∀ c, i.issuer ≠ .hb c := fun c hc => by simp [hi, hc, Agent.external] at ha
      by_cases hacq : i.issuer = .acq
      · cases i with
        | acqPush opa => exact inv_acqPush h ⟨hr, hi⟩
        | _ => cases hacq
      · obtain ⟨t, ht⟩ := exec_completes (s := s) hacq hct
        have hf : Frame i s t := exec_frame ht
        have hrun : RunningInv t := (h.runningInv hr).of_frame hf hacq hct fun c hc => absurd hc (hhb c)
        exact ⟨t, ht, hrun.inv ((hf.tokens_eq hhb).trans h.token)⟩
    · exact ⟨_, exec_wrongIssuer hr hi, h.raise hr (by decide)⟩
  · exact ⟨_, exec_stopped i hr, h.answer _ _⟩

/-- R100: so does a request that names no operation. -/
theorem inv_illegal (h : s.Inv) : ∃ t, s.illegal = .next t ∧ t.Inv := by
  rw [illegal_eq]
  split
  · next hr => exact ⟨_, rfl, h.raise hr (by decide)⟩
  · exact ⟨_, rfl, h.answer _ _⟩

/-! ### The turn of a heartbeat (R251 to R262) -/

/-- R273: after an operation that leads to `t` the sequencer stays or advances. -/
theorem advanceUnlessNotReady_next (task : Task) (t : State) :
    advanceUnlessNotReady task (.next t) = .next t
      ∨ advanceUnlessNotReady task (.next t) = .next (t.advance task) := by
  simp only [advanceUnlessNotReady]
  split
  · exact .inl rfl
  · exact .inr rfl

theorem heartbeatProgram_issuer (c : CoreId) (p : BitVec 3) : (heartbeatProgram c p).issuer = .hb c := by
  unfold heartbeatProgram
  split <;> rfl

/-- R262: the semaphores are used at the positions 0 and 7 only. -/
theorem heartbeatProgram_body {c : CoreId} {p : BitVec 3} (h0 : p ≠ 0) (h7 : p ≠ 7) (d : CoreId) :
    heartbeatProgram c p ≠ .semWait d ∧ heartbeatProgram c p ≠ .semSignal d := by
  have hall : ∀ q : BitVec 3, q ≠ 0 → q ≠ 7 →
      heartbeatProgram c q ≠ .semWait d ∧ heartbeatProgram c q ≠ .semSignal d := by
    cases c <;> cases d <;> decide
  exact hall p h0 h7

theorem exec_semWait_set {c : CoreId} (h : s.readyFor (.semWait c)) (hgo : s.go.get c = true) :
    exec (.semWait c) s
      = .next ((({ s with go := s.go.set c false } : State).setOwner c .none).answer .ok 0) := by
  show execSemWait c s = _
  rw [execSemWait, fromIssuer_ready s (.hb c) _ h.1 h.2, hgo]

theorem exec_semWait_clear {c : CoreId} (h : s.readyFor (.semWait c)) (hgo : s.go.get c = false) :
    exec (.semWait c) s = .next ((s.setOwner c .none).answer .notReady 0) := by
  show execSemWait c s = _
  rw [execSemWait, fromIssuer_ready s (.hb c) _ h.1 h.2, hgo]

theorem exec_semSignal_ready {c : CoreId} (h : s.readyFor (.semSignal c)) :
    exec (.semSignal c) s
      = .next ((({ s with go := s.go.set c.other true } : State).setOwner c .hb).answer .ok 0) := by
  unfold exec
  exact fromIssuer_ready s _ _ h.1 h.2

/-- The tokens after a heartbeat's advance. -/
theorem State.tokens_advance_hb (t : State) (c : CoreId) : (t.advance (.hb c)).tokens
    = coreTokens (t.go.get c) ((t.heart.get c).hbPc + 1)
      + coreTokens (t.go.get c.other) (t.heart.get c.other).hbPc := by
  simp [State.tokens_eq _ c, State.advance]

/-- R251, R268: at position 0 the token stays a set semaphore or becomes the position 1. -/
theorem tokens_semWait {c : CoreId} {u : State} (h : s.readyFor (.semWait c)) (htoken : s.tokens = 1)
    (hpc : (s.heart.get c).hbPc = 0) (hu : advanceUnlessNotReady (.hb c) (exec (.semWait c) s) = .next u) :
    u.tokens = 1 := by
  rw [State.tokens_eq s c] at htoken
  cases hgo : s.go.get c with
  | true =>
    rw [exec_semWait_set h hgo] at hu
    cases hu
    rw [hgo, hpc] at htoken
    rw [State.tokens_advance_hb]
    simp only [State.answer_go, State.setOwner_go, State.answer_heart, State.setOwner_heart,
      Pair.get_set_same, Pair.get_other_set, hpc]
    exact htoken
  | false =>
    rw [exec_semWait_clear h hgo] at hu
    cases hu
    rw [State.tokens_eq _ c]
    exact htoken

/-- R252, R268: at position 7 the token becomes the other core's semaphore. -/
theorem tokens_semSignal {c : CoreId} {u : State} (h : s.readyFor (.semSignal c)) (htoken : s.tokens = 1)
    (hpc : (s.heart.get c).hbPc = 7) (hu : advanceUnlessNotReady (.hb c) (exec (.semSignal c) s) = .next u) :
    u.tokens = 1 := by
  rw [State.tokens_eq s c, hpc] at htoken
  rw [exec_semSignal_ready h] at hu
  cases hu
  rw [State.tokens_advance_hb]
  simp only [State.answer_go, State.setOwner_go, State.answer_heart, State.setOwner_heart,
    Pair.get_set_same, Pair.get_set_other, hpc]
  exact coreTokens_signal htoken

/-- R268: in between, the position is the token, whether or not it advances. -/
theorem tokens_body {c : CoreId} {u : State} (hf : Frame i s t) (hi : ∀ d, i ≠ .semWait d ∧ i ≠ .semSignal d)
    (htoken : s.tokens = 1) (h0 : (s.heart.get c).hbPc ≠ 0) (h7 : (s.heart.get c).hbPc ≠ 7)
    (hu : advanceUnlessNotReady (.hb c) (.next t) = .next u) : u.tokens = 1 := by
  have hgo : ∀ d, t.go.get d = s.go.get d := fun d =>
    (hf.go d).resolve_right fun h => h.elim (fun h => (hi _).1 h.1) fun h => (hi _).2 h.1
  rcases advanceUnlessNotReady_next (.hb c) t with hstay | hmove
  · cases hstay.symm.trans hu
    exact (State.tokens_congr hgo hf.hbPc).trans htoken
  · cases hmove.symm.trans hu
    rw [State.tokens_eq s c] at htoken
    rw [State.tokens_advance_hb, hgo, hgo, hf.hbPc, hf.hbPc, coreTokens_next _ h0 h7, htoken]

/-- R268: a turn of a heartbeat keeps the one token. -/
theorem tokens_heartbeat {c : CoreId} (hr : s.runState = .running) (ha : s.agent = .hb c) (htoken : s.tokens = 1)
    (ht : exec (heartbeatProgram c (s.heart.get c).hbPc) s = .next t) {u : State}
    (hu : advanceUnlessNotReady (.hb c) (.next t) = .next u) : u.tokens = 1 := by
  have hprogram : ∀ {p}, (s.heart.get c).hbPc = p →
      advanceUnlessNotReady (.hb c) (exec (heartbeatProgram c p) s) = .next u := fun hp => by
    rw [← hp, ht]
    exact hu
  by_cases h0 : (s.heart.get c).hbPc = 0
  · exact tokens_semWait ⟨hr, ha⟩ htoken h0 (hprogram h0)
  · by_cases h7 : (s.heart.get c).hbPc = 7
    · exact tokens_semSignal ⟨hr, ha⟩ htoken h7 (hprogram h7)
    · exact tokens_body (exec_frame ht) (heartbeatProgram_body h0 h7) htoken h0 h7 hu

/-- A turn of a heartbeat whose core the consumer does not hold completes and keeps the invariant. -/
theorem inv_heartbeat (h : s.Inv) {c : CoreId} (hr : s.runState = .running) (ha : s.agent = .hb c)
    (howner : s.coreOwner.get c ≠ .ct) :
    ∃ u, advanceUnlessNotReady (.hb c) (exec (heartbeatProgram c (s.heart.get c).hbPc) s) = .next u ∧ u.Inv := by
  have hi : (heartbeatProgram c (s.heart.get c).hbPc).issuer = .hb c := heartbeatProgram_issuer c _
  have hacq : (heartbeatProgram c (s.heart.get c).hbPc).issuer ≠ .acq := by simp [hi]
  have hct : (heartbeatProgram c (s.heart.get c).hbPc).issuer ≠ .ct := by simp [hi]
  obtain ⟨t, ht⟩ := exec_completes (s := s) hacq hct
  have hrun : RunningInv t := (h.runningInv hr).of_frame (exec_frame ht) hacq hct fun d hd => by
    obtain rfl : c = d := Agent.hb.inj (hi.symm.trans hd)
    exact howner
  have htokens : ∀ u, advanceUnlessNotReady (.hb c) (.next t) = .next u → u.tokens = 1 :=
    fun u => tokens_heartbeat hr ha h.token ht
  rw [ht]
  rcases advanceUnlessNotReady_next (.hb c) t with hstay | hmove
  · exact ⟨_, hstay, hrun.inv (htokens _ hstay)⟩
  · exact ⟨_, hmove, RunningInv.inv ⟨hrun.base.advance _, hrun.owner1, hrun.owner0, hrun.epoch⟩
      (htokens _ hmove)⟩

end

end Sys2Proof.Machine
end

section
/-! PROOFS. The turn of the consumer (`spec/44_capture.md` R193 to R198, `spec/45_fft.md` R217,
`spec/46_magnitude_peak.md` R232 to R237), and the step of the whole block (`spec/60_exceptions.md` R292). -/

namespace Sys2Proof.Machine

section

variable {s t : State} {g : Cfg} {cap : Capture} {m m' : Memory} {k k' : Consumer}

/-! ### What the consumer does to an epoch -/

/-- R194: `CAP_WAIT` that finds an epoch lets the consumer go on to `CAP_REARM`. -/
theorem EpochInv.found (h : EpochInv g cap m k) (hdone : cap.epochDone = true) :
    EpochInv g cap m { k with ctPc := 1 } :=
  { h with
    waited := fun _ => hdone
    handed := fun hpc => absurd hpc (by decide : (1 : BitVec 3) ≠ 2)
    loaded := fun hpc => absurd hpc (by decide : ¬ 3 ≤ (1 : BitVec 3).toNat) }

/-- R194: the buffers change their roles, so the consumer holds the complete one. -/
theorem EpochInv.rearm (h : EpochInv g cap m k) (hn : 0 < g.n) (hdone : cap.epochDone = true) :
    EpochInv g ⟨cap.consSel, cap.fillSel, 0, true, false⟩ m { k with ctPc := 2 } :=
  { h with
    buffers := h.buffers.symm
    bounded := Nat.zero_le _
    capture := rfl
    pointer := fun _ => hn
    gathered := fun j hj => absurd hj (Nat.not_lt_zero j)
    complete := fun hf => absurd hf Bool.false_ne_true
    waited := fun hpc => absurd hpc (by decide : (2 : BitVec 3) ≠ 1)
    handed := fun _ => h.complete hdone ▸ h.gathered
    loaded := fun hpc => absurd hpc (by decide : ¬ 3 ≤ (2 : BitVec 3).toNat) }

/-- R196, R217: work on the arrays that leaves the buffers and ends with whole arrays. -/
theorem EpochInv.arrays (h : EpochInv g cap m k) {pc : BitVec 3} (hpc : 3 ≤ pc.toNat)
    (hb : m'.buffers = m.buffers) (hwf : m'.wf g.n) (hfill : m'.filled .re g.n ∧ m'.filled .im g.n) :
    EpochInv g cap m' { k with ctPc := pc } := by
  have hread : ∀ {b : BufSel} {n : Nat}, m.filled (.buf b) n → m'.filled (.buf b) n := fun hf j hj => by
    rw [Memory.read_buf_of_buffers hb]
    exact hf j hj
  obtain ⟨hb0, hb1⟩ := Prod.mk.inj hb
  exact
    { h with
      canonical := hwf
      gathered := hread h.gathered
      waited := fun h1 => by
        obtain rfl : pc = 1 := h1
        exact absurd hpc (by decide)
      handed := fun h2 => by
        obtain rfl : pc = 2 := h2
        exact absurd hpc (by decide)
      loaded := fun _ => hfill
      samples := by
        rw [hb0, hb1]
        exact h.samples }

/-- R39, R43: work on the consumer's registers alone, at a position after `WIN_LOAD`. -/
theorem EpochInv.registers (h : EpochInv g cap m k) (hidx : k'.maxIdx.toNat < g.n) (hlate : 3 ≤ k.ctPc.toNat)
    (hnext : k'.ctPc = k.ctPc + 1) : EpochInv g cap m k' := by
  have late : ∀ p : BitVec 3, 3 ≤ p.toNat → p + 1 ≠ 1 ∧ p + 1 ≠ 2 := by decide
  obtain ⟨h1, h2⟩ := late k.ctPc hlate
  exact
    { h with
      waited := fun hk => absurd (hnext.symm.trans hk) h1
      handed := fun hk => absurd (hnext.symm.trans hk) h2
      loaded := fun _ => h.loaded hlate
      peak := hidx }

/-! ### The operations of the consumer -/

theorem exec_capWait_ready (h : s.readyFor .capWait) : exec .capWait s
    = .next ((s.setOwner .c0 .none).answer (if s.cap.epochDone then .ok else .notReady) 0) := by
  unfold exec
  exact fromIssuer_ready s _ _ h.1 h.2

theorem exec_capRearm_done (h : s.readyFor .capRearm) (hdone : s.cap.epochDone = true) :
    exec .capRearm s = .next ((s.rearm.setOwner .c0 .ct).answer .ok 0) := by
  show execCapRearm s = _
  rw [execCapRearm, fromIssuer_ready s .ct _ h.1 h.2, hdone]

theorem exec_pubFreq_ready (h : s.readyFor .pubFreq) : exec .pubFreq s
    = .next ((({ s with tele := { s.tele with
        maxFrequency := peakFrequency s.cfg s.cons.maxIdx.toNat } } : State).setOwner .c0 .ct).answer .ok 0) := by
  unfold exec
  exact fromIssuer_ready s _ _ h.1 h.2

theorem exec_pubCntLd_ready (h : s.readyFor .pubCntLd) : exec .pubCntLd s
    = .next ((({ s with cons := { s.cons with cntTmp := s.tele.fftCount } } : State).setOwner .c0 .ct).answer
        .ok 0) := by
  unfold exec
  exact fromIssuer_ready s _ _ h.1 h.2

theorem exec_pubCntSt_ready (h : s.readyFor .pubCntSt) : exec .pubCntSt s
    = .next ((({ s with tele := { s.tele with fftCount := s.cons.cntTmp + 1 } } : State).setOwner .c0 .ct).answer
        .ok 0) := by
  unfold exec
  exact fromIssuer_ready s _ _ h.1 h.2

/-! ### The turn of the consumer -/

/-- What an operation of the consumer leaves alone whether or not the sequencer then advances: the base, the
owner of core 1 and the token. -/
theorem consumer_frame (h : s.Inv) (hr : s.runState = .running) {i : Instr} (hi : i.issuer = .ct)
    (ht : exec i s = .next t) : BaseInv t ∧ t.coreOwner.at1 ≠ .ct ∧ t.tokens = 1 := by
  have hf : Frame i s t := exec_frame ht
  have hhb : ∀ c, i.issuer ≠ .hb c := fun c => by simp [hi]
  have howner : t.coreOwner.at1 = s.coreOwner.at1 := hf.owner_eq .c1 (hhb .c1) (fun hc => by cases hc)
  exact ⟨(h.runningInv hr).base.of_frame hf, howner ▸ h.owner1, (hf.tokens_eq hhb).trans h.token⟩

/-- R273: an operation of the consumer that answers OK after the change to `v`: the sequencer advances, and the
invariant holds if the epoch's part of it does at the new position. -/
theorem consumer_ok (h : s.Inv) (hr : s.runState = .running) {i : Instr} (hi : i.issuer = .ct) {v : State}
    {o : Owner} {res : Word} (ht : exec i s = .next ((v.setOwner .c0 o).answer .ok res))
    (howner : 2 ≤ (v.cons.ctPc + 1).toNat → o = .ct)
    (hepoch : EpochInv v.cfg v.cap v.mem { v.cons with ctPc := v.cons.ctPc + 1 }) :
    ∃ u, advanceUnlessNotReady .ct (exec i s) = .next u ∧ u.Inv := by
  obtain ⟨hbase, howner1, htoken⟩ := consumer_frame h hr hi ht
  exact ⟨((v.setOwner .c0 o).answer .ok res).advance .ct, by rw [ht]; rfl,
    RunningInv.inv ⟨hbase.advance .ct, howner1, howner, hepoch⟩ htoken⟩

/-- R39: a bin index below `N` fits in the register. -/
theorem maxIdx_ofNat_lt {n b : Nat} (hb : b < n) : (BitVec.ofNat 16 b).toNat < n := by
  rw [BitVec.toNat_ofNat]
  exact Nat.lt_of_le_of_lt (Nat.mod_le _ _) hb

/-- R193, R198: at its first position the consumer waits for an epoch, and goes on when there is one. -/
theorem inv_consumer_wait (h : s.Inv) (hr : s.runState = .running) (ha : s.agent = .ct) (hpc : s.cons.ctPc = 0) :
    ∃ u, advanceUnlessNotReady .ct (exec .capWait s) = .next u ∧ u.Inv := by
  have hrun : RunningInv s := h.runningInv hr
  have ht := exec_capWait_ready (s := s) ⟨hr, ha⟩
  cases hdone : s.cap.epochDone with
  | true =>
    rw [hdone] at ht
    refine consumer_ok h hr rfl ht (fun h2 => ?_) ?_
    · rw [hpc] at h2
      exact absurd h2 (by decide)
    · rw [hpc]
      exact hrun.epoch.found hdone
  | false =>
    rw [hdone] at ht
    obtain ⟨hbase, howner1, htoken⟩ := consumer_frame h hr rfl ht
    refine ⟨_, by rw [ht]; rfl, RunningInv.inv ⟨hbase, howner1, fun h2 => ?_, hrun.epoch⟩ htoken⟩
    have h2' : 2 ≤ s.cons.ctPc.toNat := h2
    rw [hpc] at h2'
    exact absurd h2' (by decide)

/-- R73, R197: `WIN_LOAD` finds the whole buffer it needs. -/
theorem inv_consumer_window (h : s.Inv) (hr : s.runState = .running) (ha : s.agent = .ct)
    (hpc : s.cons.ctPc = 2) : ∃ u, advanceUnlessNotReady .ct (exec .winLoad s) = .next u ∧ u.Inv := by
  have hrun : RunningInv s := h.runningInv hr
  obtain ⟨m', hm'⟩ := Option.isSome_iff_exists.1
    ((windowLoad_isSome_iff s.cfg.n s.cap.consSel s.mem).2 (hrun.epoch.handed hpc))
  have ht := exec_winLoad_ready (s := s) ⟨hr, ha⟩
  rw [hm', withMemory_some] at ht
  refine consumer_ok h hr rfl ht (fun _ => rfl) (hrun.epoch.arrays ?_ (windowLoad_buffers hm')
    (windowLoad_wf _ _ _ _ hm' h.canonical) (windowLoad_fills hm'))
  rw [hpc]
  decide

/-- R73, R217: `FFT_RUN` finds whole arrays and leaves them whole. -/
theorem inv_consumer_transform (h : s.Inv) (hr : s.runState = .running) (ha : s.agent = .ct)
    (hpc : s.cons.ctPc = 3) : ∃ u, advanceUnlessNotReady .ct (exec .fftRun s) = .next u ∧ u.Inv := by
  have hrun : RunningInv s := h.runningInv hr
  have h4 : 4 ≤ s.cfg.n := four_le_n_of_accepted hrun.base.config
  have hfill : s.mem.filled .re s.cfg.n ∧ s.mem.filled .im s.cfg.n := hrun.epoch.loaded (by rw [hpc]; decide)
  obtain ⟨m', hm'⟩ := Option.isSome_iff_exists.1
    ((fftRun_isSome_iff (isPow2_of_accepted hrun.base.config) (by omega) s.mem).2 hfill)
  have hw : m'.written = s.mem.written := fftRun_written hm'
  have hfill' : m'.filled .re s.cfg.n ∧ m'.filled .im s.cfg.n :=
    ⟨fun j hj => (congrFun (congrFun hw .re) j).trans (hfill.1 j hj),
      fun j hj => (congrFun (congrFun hw .im) j).trans (hfill.2 j hj)⟩
  have ht := exec_fftRun_ready (s := s) ⟨hr, ha⟩
  rw [hm', withMemory_some] at ht
  refine consumer_ok h hr rfl ht (fun _ => rfl) (hrun.epoch.arrays ?_ (fftRun_buffers hm')
    (fftRun_wf _ _ _ hm' h.canonical) hfill')
  rw [hpc]
  decide

/-- R73, R232: `PEAK_SCAN` finds whole arrays and a bin. -/
theorem inv_consumer_peak (h : s.Inv) (hr : s.runState = .running) (ha : s.agent = .ct)
    (hpc : s.cons.ctPc = 4) : ∃ u, advanceUnlessNotReady .ct (exec .peakScan s) = .next u ∧ u.Inv := by
  have hrun : RunningInv s := h.runningInv hr
  have h4 : 4 ≤ s.cfg.n := four_le_n_of_accepted hrun.base.config
  have hloaded : 3 ≤ s.cons.ctPc.toNat := by rw [hpc]; decide
  obtain ⟨hre, him⟩ := hrun.epoch.loaded hloaded
  obtain ⟨⟨mag, b⟩, hbest⟩ := Option.isSome_iff_exists.1
    ((peakSearch_isSome_iff s.cfg s.mem).2 fun j hj => ⟨hre j (by omega), him j (by omega)⟩)
  have hb : b < s.cfg.n := peakSearch_lt (by omega) hbest
  exact consumer_ok h hr rfl (exec_peakScan_ready_some ⟨hr, ha⟩ hbest) (fun _ => rfl)
    (hrun.epoch.registers (maxIdx_ofNat_lt hb) hloaded rfl)

/-- A turn of the consumer completes and keeps the invariant. -/
theorem inv_consumer (h : s.Inv) (hr : s.runState = .running) (ha : s.agent = .ct) :
    ∃ u, advanceUnlessNotReady .ct (exec (consumerProgram s.cons.ctPc) s) = .next u ∧ u.Inv := by
  have hrun : RunningInv s := h.runningInv hr
  have positions : ∀ p : BitVec 3, p = 0 ∨ p = 1 ∨ p = 2 ∨ p = 3 ∨ p = 4 ∨ p = 5 ∨ p = 6 ∨ p = 7 := by decide
  have hprogram : ∀ {p}, s.cons.ctPc = p → consumerProgram s.cons.ctPc = consumerProgram p :=
    fun hp => by rw [hp]
  obtain hpc | hpc | hpc | hpc | hpc | hpc | hpc | hpc := positions s.cons.ctPc <;> rw [hprogram hpc]
  · exact inv_consumer_wait h hr ha hpc
  · have hn : 0 < s.cfg.n := Nat.lt_of_lt_of_le (by decide) (four_le_n_of_accepted hrun.base.config)
    have hdone : s.cap.epochDone = true := hrun.epoch.waited hpc
    refine consumer_ok h hr rfl (exec_capRearm_done ⟨hr, ha⟩ hdone) (fun _ => rfl) ?_
    show EpochInv s.cfg _ s.mem { s.cons with ctPc := s.cons.ctPc + 1 }
    rw [hpc]
    exact hrun.epoch.rearm hn hdone
  · exact inv_consumer_window h hr ha hpc
  · exact inv_consumer_transform h hr ha hpc
  · exact inv_consumer_peak h hr ha hpc
  · exact consumer_ok h hr rfl (exec_pubFreq_ready ⟨hr, ha⟩) (fun _ => rfl)
      (hrun.epoch.registers hrun.epoch.peak (by rw [hpc]; decide) rfl)
  · exact consumer_ok h hr rfl (exec_pubCntLd_ready ⟨hr, ha⟩) (fun _ => rfl)
      (hrun.epoch.registers hrun.epoch.peak (by rw [hpc]; decide) rfl)
  · exact consumer_ok h hr rfl (exec_pubCntSt_ready ⟨hr, ha⟩) (fun _ => rfl)
      (hrun.epoch.registers hrun.epoch.peak (by rw [hpc]; decide) rfl)

/-! ### The step -/

/-- R266, R273: a task may issue only in a RUNNING block, on a core that nobody or itself holds. -/
theorem State.enabled_iff (s : State) (task : Task) : s.enabled task = true ↔ s.runState = .running
    ∧ (s.coreOwner.get (taskCore task) = .none ∨ s.coreOwner.get (taskCore task) = taskOwner task) := by
  simp [State.enabled]

/-- A turn given to a task completes and keeps the invariant. -/
theorem inv_taskStep (h : s.Inv) (task : Task) (conReady : Bool) :
    ∃ t, s.taskStep task conReady = .next t ∧ t.Inv := by
  unfold State.taskStep
  split
  · next henabled =>
    obtain ⟨hr, howner⟩ := (s.enabled_iff task).1 henabled
    cases task with
    | hb c =>
      refine inv_heartbeat (h.opened (.hb c) conReady) hr rfl fun hct => ?_
      rcases howner with hnone | hself
      · cases hnone.symm.trans hct
      · cases hself.symm.trans hct
    | ct => exact inv_consumer (h.opened .ct conReady) hr rfl
  · exact ⟨_, rfl, h.noReply⟩

/-- Whatever event occurs, its handling completes and keeps the invariant. -/
theorem inv_handle (h : s.Inv) {e : Event} (he : e.occurs = true) : ∃ t, s.handle e = .next t ∧ t.Inv := by
  cases e with
  | request a r conReady =>
    show ∃ t, s.serve a r conReady = .next t ∧ t.Inv
    unfold State.serve
    split
    · exact inv_exec_external (h.opened a conReady) he _
    · exact inv_illegal (h.opened a conReady)
  | task task conReady => exact inv_taskStep h task conReady
  | rstHigh => exact ⟨_, rfl, State.inv_holdReset h.occurs⟩
  | rstLow g =>
    cases hr : s.runState with
    | init => exact ⟨_, State.handle_rstLow_of_init hr g, h.initialise hr g⟩
    | running => exact ⟨_, by simp only [State.handle, hr], h.noReply⟩
    | halted => exact ⟨_, by simp only [State.handle, hr], h.noReply⟩

theorem step_of_inbox_cons {e : Event} {rest : List Event} (hin : s.inbox = e :: rest) :
    step s = ({ s with inbox := rest } : State).handle e := by
  simp [step, State.takeEvent, State.stepOn, hin]

/-- R96: where the inbox is empty, an arrival that cannot occur makes no step (log 2). -/
theorem step_of_inbox_nil (hin : s.inbox = []) : step s =
    if (Config.arrival s.arrivals).occurs then
      ({ s with arrivals := s.arrivals + 1 } : State).handle (Config.arrival s.arrivals)
    else .next { s with arrivals := s.arrivals + 1, reply := none } := by
  cases ho : (Config.arrival s.arrivals).occurs <;> simp [step, State.takeEvent, State.stepOn, hin, ho]

end

/-- Settles O52: the event taken is one that occurs, and the handling of each such event completes and keeps the
invariant. -/
theorem invariantKept : Obligations.InvariantKept := by
  unfold Obligations.InvariantKept
  intro s h
  cases hin : s.inbox with
  | cons e rest =>
    rw [step_of_inbox_cons hin]
    have hall : ∀ x ∈ e :: rest, x.occurs = true := fun x hx => h.occurs x (hin ▸ hx)
    have hrest : ({ s with inbox := rest } : State).Inv :=
      h.of_ports rfl fun x hx => hall x (List.mem_cons_of_mem e hx)
    exact inv_handle hrest (hall e List.mem_cons_self)
  | nil =>
    rw [step_of_inbox_nil hin]
    split
    · next ho =>
      have hnext : ({ s with arrivals := s.arrivals + 1 } : State).Inv := h.of_ports rfl h.occurs
      exact inv_handle hnext ho
    · exact ⟨_, rfl, h.of_ports rfl h.occurs⟩

end Sys2Proof.Machine
end

section
/-! PROOFS. The command words (`spec/30_encoding.md` R91 to R94): the opcode table row by row, what the decoder
answers on its words, and that it accepts no other. -/

namespace Sys2Proof.Machine

/-! ### The opcode table -/

/-- R92: the operations of the 49 command words, in the order of the table, where the ports carry `a` and `b`. -/
def opcodeTable (a b : Word) : List Instr := [
  .fxFromInt a, .fxFromFloat a, .fxToFloat a, .fxToInt a, .fxMul a b, .fxDiv a b, .fxAbs a,
  .sinDds a, .sinFft a, .cosFft a,
  .hannRd a,
  .ddsTick .c0, .ddsTick .c1, .ddsSample .c0, .ddsSample .c1, .dacPush .c0, .dacPush .c1,
  .envStep .c0, .envStep .c1,
  .acqPush a, .capWait, .capRearm, .winLoad,
  .fftBitrev, .fftPass a, .fftRun,
  .mag a b, .peakScan, .pubFreq, .pubCntLd, .pubCntSt,
  .semWait .c0, .semWait .c1, .semSignal .c0, .semSignal .c1, .hbCount .c0, .hbCount .c1,
  .hbRdFreq .c0, .hbRdFreq .c1, .hbRdFft .c0, .hbRdFft .c1, .hbEmit .c0, .hbEmit .c1,
  .hbClear .c0, .hbClear .c1, .hbSleep .c0, .hbSleep .c1, .sleepExpire .c0, .sleepExpire .c1]

/-- R94: on the ports that the row of `i` lists, `a` and `b` are the operands of `i`. -/
def CarriesOperands (i : Instr) (a b : Word) : Prop :=
  ((portsListed i).1 = true → a = (encode i).opa) ∧ ((portsListed i).2 = true → b = (encode i).opb)

theorem carriesOperands_encode (i : Instr) : CarriesOperands i (encode i).opa (encode i).opb :=
  ⟨fun _ => rfl, fun _ => rfl⟩

theorem encodeCmd_opcodeTable (a b : Word) : (opcodeTable a b).map encodeCmd = legalWords := rfl

/-- The table holds every operation whose operands the ports carry: by the operand column of its row. -/
theorem mem_opcodeTable {i : Instr} {a b : Word} (h : CarriesOperands i a b) : i ∈ opcodeTable a b := by
  obtain ⟨ha, hb⟩ := h
  cases i with
  | fxMul x y | fxDiv x y | mag x y =>
    obtain rfl : a = x := ha rfl
    obtain rfl : b = y := hb rfl
    simp [opcodeTable]
  | fxFromInt x | fxFromFloat x | fxToFloat x | fxToInt x | fxAbs x | sinDds x | sinFft x | cosFft x | hannRd x
  | acqPush x | fftPass x =>
    obtain rfl : a = x := ha rfl
    simp [opcodeTable]
  | capWait | capRearm | winLoad | fftBitrev | fftRun | peakScan | pubFreq | pubCntLd | pubCntSt =>
    simp [opcodeTable]
  | ddsTick c | ddsSample c | dacPush c | envStep c | semWait c | semSignal c | hbCount c | hbRdFreq c | hbRdFft c
  | hbEmit c | hbClear c | hbSleep c | sleepExpire c =>
    cases c <;> simp [opcodeTable]

theorem decode_mk (w : BitVec 16) (a b : Word) : decode ⟨w, a, b⟩
    = if cmdZero w = 0 then decodeRow (cmdUnit w) (cmdOp w) (cmdCore w) a b else .error .reservedBits := rfl

/-- The decoder on the 49 words, in the order of the table, whatever the ports carry. -/
theorem decode_legalWords (a b : Word) : legalWords.map (fun w => decode ⟨w, a, b⟩) = (opcodeTable a b).map .ok := by
  simp only [decode_mk]
  rfl

/-- Every row of the table decodes from its own word. -/
theorem decode_opcodeTable {i : Instr} {a b : Word} (h : i ∈ opcodeTable a b) :
    decode ⟨encodeCmd i, a, b⟩ = .ok i := by
  have hrows : (opcodeTable a b).map (fun j => decode ⟨encodeCmd j, a, b⟩) = (opcodeTable a b).map .ok := by
    rw [← decode_legalWords, ← encodeCmd_opcodeTable a b, List.map_map]
    rfl
  exact List.map_inj_left.1 hrows i h

theorem encodeCmd_mem_legalWords (i : Instr) : encodeCmd i ∈ legalWords := by
  rw [← encodeCmd_opcodeTable (encode i).opa (encode i).opb]
  exact List.mem_map_of_mem (mem_opcodeTable (carriesOperands_encode i))

/-- R91: the word of an operation keeps `cmd[7:1]` at zero. -/
theorem cmdZero_encodeCmd (i : Instr) : cmdZero (encodeCmd i) = 0 := by
  have hzero : legalWords.all (cmdZero · == 0) = true := by decide
  exact beq_iff_eq.1 (List.all_eq_true.1 hzero _ (encodeCmd_mem_legalWords i))

/-! ### What a decoded word is -/

theorem cmdCore_eq_iff (v w : BitVec 16) : cmdCore v = cmdCore w ↔ v.toNat % 2 = w.toNat % 2 := by
  unfold cmdCore
  split <;> split <;> simp only [reduceCtorEq, true_iff, false_iff] <;> omega

/-- R91: the four fields are the whole word. -/
theorem cmd_eq_of_fields {v w : BitVec 16} (hunit : cmdUnit v = cmdUnit w) (hop : cmdOp v = cmdOp w)
    (hzero : cmdZero v = cmdZero w) (hcore : cmdCore v = cmdCore w) : v = w := by
  have hbit : v.toNat % 2 = w.toNat % 2 := (cmdCore_eq_iff v w).1 hcore
  unfold cmdUnit at hunit
  unfold cmdOp at hop
  unfold cmdZero at hzero
  exact BitVec.eq_of_toNat_eq (by omega)

theorem noCore_eq_ok_iff {c : CoreId} {i j : Instr} : noCore c j = .ok i ↔ c = .c0 ∧ j = i := by
  cases c <;> simp [noCore]

/-- R93: the row selected is the one whose word has these fields, and its operands come from the ports. -/
theorem fields_of_decodeRow {u o : Nat} {c : CoreId} {a b : Word} {i : Instr} (h : decodeRow u o c a b = .ok i) :
    (u = cmdUnit (encodeCmd i) ∧ o = cmdOp (encodeCmd i) ∧ c = cmdCore (encodeCmd i)) ∧ CarriesOperands i a b := by
  unfold decodeRow at h
  split at h
  -- The rows of the per-core units 4, 5 and 9; then the words of no row; then the rows that need `CORE` = 0.
  case h_12 | h_13 | h_14 | h_15 | h_28 | h_29 | h_30 | h_31 | h_32 | h_33 | h_34 | h_35 | h_36 =>
    cases h
    exact ⟨by cases c <;> decide, by simp [CarriesOperands, portsListed]⟩
  case h_37 => cases h
  all_goals
    obtain ⟨rfl, rfl⟩ := noCore_eq_ok_iff.1 h
    exact ⟨by simp only [encodeCmd]; decide, by simp [CarriesOperands, portsListed, encode, encodeOperands]⟩

/-- R92, R93: a request names `i` exactly if it carries the word of `i` and, where they are listed, its
operands. -/
theorem decode_eq_ok_iff (r : Request) (i : Instr) :
    decode r = .ok i ↔ r.cmd = encodeCmd i ∧ CarriesOperands i r.opa r.opb := by
  constructor
  · intro h
    unfold decode at h
    split at h
    · next hzero =>
      obtain ⟨⟨hunit, hop, hcore⟩, hports⟩ := fields_of_decodeRow h
      exact ⟨cmd_eq_of_fields hunit hop (hzero.trans (cmdZero_encodeCmd i).symm) hcore, hports⟩
    · cases h
  · rintro ⟨hcmd, hports⟩
    have hrow : decode ⟨encodeCmd i, r.opa, r.opb⟩ = .ok i := decode_opcodeTable (mem_opcodeTable hports)
    rwa [← hcmd] at hrow

/-- R92: the words of the table, and no others, name an operation. -/
theorem exists_decode_iff (r : Request) : (∃ i, decode r = .ok i) ↔ r.cmd ∈ legalWords := by
  constructor
  · rintro ⟨i, h⟩
    rw [((decode_eq_ok_iff r i).1 h).1]
    exact encodeCmd_mem_legalWords i
  · intro h
    rw [← encodeCmd_opcodeTable r.opa r.opb] at h
    obtain ⟨i, hi, hcmd⟩ := List.mem_map.1 h
    have hrow : decode ⟨encodeCmd i, r.opa, r.opb⟩ = .ok i := decode_opcodeTable hi
    exact ⟨i, by rwa [hcmd] at hrow⟩

/-- Settles O1: the encoding carries the word and the operands of the operation. -/
theorem decodeEncodeAgree : Obligations.DecodeEncodeAgree := by
  unfold Obligations.DecodeEncodeAgree
  exact fun i => (decode_eq_ok_iff (encode i) i).2 ⟨rfl, carriesOperands_encode i⟩

/-- Settles O2, from the opcode table in both directions. -/
theorem legalWordsAreTheListed : Obligations.LegalWordsAreTheListed := by
  unfold Obligations.LegalWordsAreTheListed
  exact fun r => ⟨exists_decode_iff r, decode_eq_ok_iff r⟩

/-- Settles O3: each of these requests is the encoding of the operation named. -/
theorem decodedWords : Obligations.DecodedWords := by
  unfold Obligations.DecodedWords
  exact ⟨decodeEncodeAgree (.fxDiv 7 9), decodeEncodeAgree (.cosFft 768), decodeEncodeAgree (.hannRd 4),
    decodeEncodeAgree (.dacPush .c1), decodeEncodeAgree (.envStep .c0), decodeEncodeAgree (.acqPush 0x1FF),
    decodeEncodeAgree (.fftPass 8), decodeEncodeAgree .pubCntLd, decodeEncodeAgree (.sleepExpire .c1)⟩

end Sys2Proof.Machine
end

section
/-! PROOFS. The service of a request (`spec/48_control_and_access.md` R273), and what a block that is not RUNNING
answers (`spec/30_encoding.md` R104). -/

namespace Sys2Proof.Machine

section

variable {s : State}

theorem serve_of_decode (a : Agent) {r : Request} (conReady : Bool) {i : Instr} (hi : decode r = .ok i) :
    s.serve a r conReady = exec i (s.open a conReady) := by
  simp only [State.serve, hi]

/-- R104, R290 check 1: legal or not, a request to a stopped block is answered NOTRUNNING. -/
theorem serve_stopped (hr : s.runState ≠ .running) (a : Agent) (r : Request) (conReady : Bool) :
    s.serve a r conReady = .next ((s.open a conReady).answer .notRunning 0) := by
  unfold State.serve
  split
  · exact exec_stopped _ hr
  · exact (illegal_eq _).trans (if_neg hr)

/-- R104: a sequencer of a stopped block issues nothing. -/
theorem taskStep_stopped (hr : s.runState ≠ .running) (t : Task) (conReady : Bool) :
    s.taskStep t conReady = .next { s with reply := none } :=
  if_neg fun henabled => hr ((s.enabled_iff t).1 henabled).1

end

/-- Settles O4: the step takes the event, and its request is served by the operation it decodes to. -/
theorem stepServesRequest : Obligations.StepServesRequest := by
  unfold Obligations.StepServesRequest
  intro s a r conReady rest i hin hi
  exact (step_of_inbox_cons hin).trans (serve_of_decode a conReady hi)

/-- Settles O7: requests, operations and turns each meet the RUNNING check first. -/
theorem stoppedBlockAnswersNotRunning : Obligations.StoppedBlockAnswersNotRunning := by
  unfold Obligations.StoppedBlockAnswersNotRunning
  intro s hr
  refine ⟨fun a r conReady rest hin => ?_, fun i => exec_stopped i hr, fun t conReady rest hin => ?_⟩
  · exact (step_of_inbox_cons hin).trans (serve_stopped (s := { s with inbox := rest }) hr a r conReady)
  · exact (step_of_inbox_cons hin).trans (taskStep_stopped (s := { s with inbox := rest }) hr t conReady)

end Sys2Proof.Machine
end

section
/-! PROOFS. The tick and its three parts (`spec/43_dds_envelope.md` R178). -/

namespace Sys2Proof.Machine

section

variable {s : State} {c : CoreId}

/-! ### The parts, accepted -/

theorem exec_ddsSample_ready (h : s.readyFor (.ddsSample c)) :
    exec (.ddsSample c) s = .next ((s.ddsSample c).answer .ok 0) := by
  unfold exec
  exact fromIssuer_ready s _ _ h.1 h.2

theorem exec_envStep_ready (h : s.readyFor (.envStep c)) :
    exec (.envStep c) s = .next ((s.envStep c).answer .ok 0) := by
  unfold exec
  exact fromIssuer_ready s _ _ h.1 h.2

theorem exec_dacPush_ready (h : s.readyFor (.dacPush c)) : exec (.dacPush c) s = .next (s.dacPush c) := by
  unfold exec
  exact fromIssuer_ready s _ _ h.1 h.2

/-- R99: a composite goes on from where its first operation leads. -/
theorem execAll_cons_of_next {i : Instr} {t : State} (h : exec i s = .next t) (rest : List Instr) :
    execAll (i :: rest) s = execAll rest t := by
  simp only [execAll, h]

/-! ### The whole tick -/

/-- R170: the envelope does not look at an answer. -/
theorem envStep_answer (s : State) (c : CoreId) (st : Status) (res : Word) :
    (s.answer st res).envStep c = (s.envStep c).answer st res := rfl

/-- R175: the DAC word does not depend on an answer, and its own answer takes the place of it. -/
theorem dacPush_answer (s : State) (c : CoreId) (st : Status) (res : Word) :
    (s.answer st res).dacPush c = s.dacPush c := rfl

/-- R178: the parts run one after the other leave what the tick leaves: the answers between them do not stay. -/
theorem execAll_tick_parts (h : s.readyFor (.ddsTick c)) : execAll [.ddsSample c, .envStep c, .dacPush c] s
    = .next (((s.ddsSample c).envStep c).dacPush c) := by
  have hsample : exec (.ddsSample c) s = .next ((s.ddsSample c).answer .ok 0) := exec_ddsSample_ready h
  have henv : exec (.envStep c) ((s.ddsSample c).answer .ok 0)
      = .next ((((s.ddsSample c).answer .ok 0).envStep c).answer .ok 0) := exec_envStep_ready h
  rw [execAll_cons_of_next hsample, execAll_cons_of_next henv, envStep_answer]
  have hpush := exec_dacPush_ready (s := (((s.ddsSample c).envStep c).answer .ok 0).answer .ok 0) (c := c) h
  rw [execAll_cons_of_next hpush, dacPush_answer, dacPush_answer]
  rfl

/-- R178: a tick changes the core's synthesis registers, emits the DAC word and answers it. -/
theorem tick_eq (s : State) (c : CoreId) : ((s.ddsSample c).envStep c).dacPush c
    = { s with
        synth := s.synth.set c (tickSynth s.cfg s.attackInc s.decayInc (s.synth.get c))
        emitted := .dac (dacWord s.cfg c (tickSynth s.cfg s.attackInc s.decayInc (s.synth.get c))) :: s.emitted
        reply := some
          ⟨(dacWord s.cfg c (tickSynth s.cfg s.attackInc s.decayInc (s.synth.get c))).setWidth 32, .ok⟩ } := by
  simp [State.dacPush, State.envStep, State.ddsSample, State.setSynth, State.emit, State.answer, tickSynth]

/-- R161, R170: a tick moves the phase by its increment, which it keeps. -/
theorem tickSynth_oscillator (g : Cfg) (attackInc decayInc : Word) (y : Synth) :
    (tickSynth g attackInc decayInc y).phaseAcc = y.phaseAcc + y.phaseInc
      ∧ (tickSynth g attackInc decayInc y).phaseInc = y.phaseInc := by
  obtain ⟨hacc, hinc, -⟩ := envStep_oscillator g attackInc decayInc (ddsSample g y)
  exact ⟨hacc, hinc⟩

end

/-- Settles O22: tick and parts lead to the same state, which `tick_eq` writes out with the registers of
`tickSynth`. -/
theorem tickIsItsParts : Obligations.TickIsItsParts := by
  unfold Obligations.TickIsItsParts
  intro c s h
  obtain ⟨hacc, hinc⟩ := tickSynth_oscillator s.cfg s.attackInc s.decayInc (s.synth.get c)
  refine ⟨(exec_ddsTick_ready h).trans (execAll_tick_parts h).symm, _, _, ?_, hacc, hinc, rfl⟩
  exact (exec_ddsTick_ready h).trans (congrArg _ (tick_eq s c))

end Sys2Proof.Machine
end

section
/-! PROOFS. Unit 1, the Q16.15 arithmetic kernel (`spec/40_fixed_point.md` R111 to R117): what each operation answers,
and the integer operations as operations on words. -/

namespace Sys2Proof.Machine

section

variable {s : State} {a b : Word}

/-! ### The operations, accepted -/

/-- R290: a pure operation, accepted, answers its result. -/
theorem exec_pure_ready {i : Instr} {res : Word} (h : s.readyFor i)
    (hexec : exec i s = s.fromIssuer i.issuer fun s => .next (s.answer .ok res)) :
    exec i s = .next (s.answer .ok res) :=
  hexec.trans (fromIssuer_ready s _ _ h.1 h.2)

theorem exec_fxFromInt_ready (h : s.readyFor (.fxFromInt a)) :
    exec (.fxFromInt a) s = .next (s.answer .ok (fromInt a)) := exec_pure_ready h rfl

theorem exec_fxFromFloat_ready (h : s.readyFor (.fxFromFloat a)) : exec (.fxFromFloat a) s
    = .next ({ s with draws := s.draws + 1 }.answer .ok (fromFloat (Config.freeWord s.draws) a)) := by
  unfold exec
  exact fromIssuer_ready s _ _ h.1 h.2

theorem exec_fxToFloat_ready (h : s.readyFor (.fxToFloat a)) :
    exec (.fxToFloat a) s = .next (s.answer .ok (toFloat a)) := exec_pure_ready h rfl

theorem exec_fxToInt_ready (h : s.readyFor (.fxToInt a)) :
    exec (.fxToInt a) s = .next (s.answer .ok (toInt32 a)) := exec_pure_ready h rfl

theorem exec_fxMul_ready (h : s.readyFor (.fxMul a b)) :
    exec (.fxMul a b) s = .next (s.answer .ok (mul a b)) := exec_pure_ready h rfl

theorem exec_fxDiv_zero (h : s.readyFor (.fxDiv a 0)) : exec (.fxDiv a 0) s = .next (s.raise .div0) := by
  unfold exec
  exact fromIssuer_ready s _ _ h.1 h.2

theorem exec_fxDiv_ready (h : s.readyFor (.fxDiv a b)) (hb : b ≠ 0) :
    exec (.fxDiv a b) s = .next (s.answer .ok (div a b)) := by
  have hbi : b.toInt ≠ 0 := fun h0 => hb (BitVec.eq_of_toInt_eq h0)
  unfold exec
  exact (fromIssuer_ready s _ _ h.1 h.2).trans (if_neg hbi)

theorem exec_fxAbs_ready (h : s.readyFor (.fxAbs a)) :
    exec (.fxAbs a) s = .next (s.answer .ok (abs32 a)) := exec_pure_ready h rfl

/-! ### The results as operations on words -/

/-- R111: the multiplication by 2^15 is a shift left. -/
theorem fromInt_eq_shiftLeft (a : Word) : fromInt a = a <<< 15 := by
  rw [BitVec.shiftLeft_eq_mul_twoPow]
  apply BitVec.eq_of_toInt_eq
  rw [fromInt, wrap32_toInt, BitVec.toInt_mul, show (BitVec.twoPow 32 15).toInt = 2 ^ 15 by decide]

/-- R114: the floor of a division by 2^15 is an arithmetic shift right. -/
theorem toInt32_eq_sshiftRight (a : Word) : toInt32 a = a.sshiftRight 15 := by
  rw [BitVec.sshiftRight, Int.shiftRight_eq_div_pow]
  rfl

/-- R117: a word is negative exactly if its top bit is set. -/
theorem abs32_eq (a : Word) : abs32 a = if a.msb then -a else a := by
  by_cases h : a.toInt < 0
  · simp only [abs32, BitVec.msb_eq_toInt, h, not_le.2 h, decide_true, if_true, if_false]
    exact neg32_eq a
  · simp only [abs32, BitVec.msb_eq_toInt, h, not_lt.1 h, decide_false, if_true, Bool.false_eq_true, if_false]

/-! ### The 64-bit intermediates -/

/-- R110: the low half of a double word is the value wrapped. -/
theorem setWidth_eq_wrap32 (x : BitVec 64) : x.setWidth 32 = wrap32 x.toInt := by
  apply BitVec.eq_of_toNat_eq
  rw [wrap32, BitVec.toNat_setWidth, BitVec.toNat_ofInt, BitVec.toInt_eq_toNat_bmod]
  have := x.isLt
  simp only [Int.bmod]
  omega

/-- R110: wrapping to 64 bits before the wrap to 32 bits makes no difference. -/
theorem wrap32_bmod64 (z : Int) : wrap32 (z.bmod (2 ^ 64)) = wrap32 z := by
  apply BitVec.eq_of_toInt_eq
  simp only [wrap32_toInt]
  exact Int.bmod_bmod_of_dvd (by decide)

theorem toInt_signExtend64 (a : Word) : (a.signExtend 64).toInt = a.toInt :=
  BitVec.toInt_signExtend_of_le (by decide)

/-- R110: a value of magnitude at most 2^62 fits the 64-bit intermediate. -/
theorem bmod64_of_le {z : Int} (h : |z| ≤ 2 ^ 62) : z.bmod (2 ^ 64) = z := by
  have := abs_le.1 h
  apply Int.bmod_eq_of_le <;> omega

theorem abs_toInt_le (a : Word) : |a.toInt| ≤ 2 ^ 31 := by
  have := toInt_range a
  exact abs_le.2 ⟨by omega, by omega⟩

/-- R115: the product is exact in 64 bits, so the words' product shifted is the integers' product shifted. -/
theorem product64_eq_mul (a b : Word) : product64 a b = mul a b := by
  have hfits : |a.toInt * b.toInt| ≤ 2 ^ 62 := by
    rw [abs_mul]
    exact mul_le_mul (abs_toInt_le a) (abs_toInt_le b) (abs_nonneg _) (by norm_num)
  rw [product64, setWidth_eq_wrap32, BitVec.toInt_sshiftRight, BitVec.toInt_mul, toInt_signExtend64,
    toInt_signExtend64, bmod64_of_le hfits, Int.shiftRight_eq_div_pow]
  rfl

/-- R116: the scaled dividend is exact in 64 bits, so the words' quotient is the integers' quotient. -/
theorem quotient64_eq_div (a b : Word) : quotient64 a b = div a b := by
  have hfits : |a.toInt * 2 ^ 15| ≤ 2 ^ 62 := by
    have := abs_toInt_le a
    rw [abs_mul, abs_of_pos (by norm_num : (0 : Int) < 2 ^ 15)]
    omega
  have hdividend : (a.signExtend 64 <<< 15).toInt = a.toInt * 2 ^ 15 := by
    rw [BitVec.shiftLeft_eq_mul_twoPow, BitVec.toInt_mul, toInt_signExtend64,
      show (BitVec.twoPow 64 15).toInt = 2 ^ 15 by decide, bmod64_of_le hfits]
  rw [quotient64, setWidth_eq_wrap32, BitVec.toInt_sdiv, hdividend, toInt_signExtend64, wrap32_bmod64]
  rfl

/-- R13: a wrapped value is congruent to the value modulo 2^32. -/
theorem wrap32_congr (z : Int) : (2 ^ 32 : Int) ∣ (wrap32 z).toInt - z := by
  rw [wrap32_toInt]
  exact Int.dvd_bmod_sub_self

end

/-- Settles O11: each result is the word operation. -/
theorem conversionsAndAbs : Obligations.ConversionsAndAbs := by
  unfold Obligations.ConversionsAndAbs
  intro opa s
  refine ⟨fun h => ?_, fun h => ?_, fun h => ?_⟩
  · rw [exec_fxFromInt_ready h, fromInt_eq_shiftLeft]
    rfl
  · rw [exec_fxToInt_ready h, toInt32_eq_sshiftRight]
    rfl
  · rw [exec_fxAbs_ready h, abs32_eq]
    rfl

/-- Settles O12: the 64-bit product never overflows, and cutting it is wrapping. -/
theorem mulWraps : Obligations.MulWraps := by
  unfold Obligations.MulWraps
  intro a b s h
  rw [exec_fxMul_ready h, product64_eq_mul]
  exact ⟨rfl, wrap32_congr _⟩

/-- Settles O13: by the divisor, zero or not. -/
theorem divTruncates : Obligations.DivTruncates := by
  unfold Obligations.DivTruncates
  intro a b s h
  refine ⟨fun hb => ?_, fun hb => ?_⟩
  · subst hb
    exact exec_fxDiv_zero h
  · rw [exec_fxDiv_ready h hb, quotient64_eq_div]
    rfl

end Sys2Proof.Machine
end

section
/-! PROOFS. The value of a binary32 and its truncation by `FX_FROM_FLOAT` (`spec/40_fixed_point.md` R120, R112). -/

namespace Sys2Proof.Machine

/-! ### The value of a binary32 -/

/-- R120: the significand with its leading bit. -/
def f32Significand (x : Word) : Nat := if f32Exponent x = 0 then f32Fraction x else f32Fraction x + 2 ^ 23

/-- R120: the exponent that scales the significand; a subnormal has the one of the smallest normal. -/
def f32Scale (x : Word) : Nat := if f32Exponent x = 0 then 1 else f32Exponent x

section

variable {x : Word}

theorem f32Significand_lt (x : Word) : f32Significand x < 2 ^ 24 := by
  have hfrac : f32Fraction x < 2 ^ 23 := Nat.mod_lt _ (by decide)
  unfold f32Significand
  split <;> omega

theorem f32Value_eq (x : Word) : f32Value x
    = (if f32Sign x then -1 else 1) * (f32Significand x * 2 ^ ((f32Scale x : Int) - 150)) := by
  unfold f32Value f32Significand f32Scale
  split <;> split <;> push_cast <;> ring_nf

theorem abs_f32Value (x : Word) : |f32Value x| = f32Significand x * 2 ^ ((f32Scale x : Int) - 150) := by
  have hnonneg : (0 : ℚ) ≤ f32Significand x * 2 ^ ((f32Scale x : Int) - 150) := by positivity
  rw [f32Value_eq]
  split <;> simp [abs_of_nonneg hnonneg]

/-- R120: the sign bit gives the sign of the value. -/
theorem f32Value_eq_abs (x : Word) : f32Value x = if f32Sign x then -|f32Value x| else |f32Value x| := by
  rw [abs_f32Value, f32Value_eq]
  split <;> ring

/-! ### Truncation of a binary32 (R112) -/

/-- R112: shifting the significand left or right is the floor of the scaled magnitude. -/
theorem f32ScaledMagnitude_eq_floor (x : Word) : f32ScaledMagnitude x = ⌊|f32Value x| * 2 ^ 15⌋₊ := by
  have hscaled : |f32Value x| * 2 ^ 15 = f32Significand x * 2 ^ ((f32Scale x : Int) - 135) := by
    rw [abs_f32Value, mul_assoc, ← zpow_natCast, ← zpow_add₀ (by norm_num)]
    congr 2
    push_cast
    ring
  have hmodel : f32ScaledMagnitude x = if 135 ≤ f32Scale x then f32Significand x * 2 ^ (f32Scale x - 135)
      else f32Significand x / 2 ^ (135 - f32Scale x) := rfl
  rw [hscaled, hmodel]
  split
  · next h =>
    have hexp : (f32Scale x : Int) - 135 = ((f32Scale x - 135 : Nat) : Int) := by omega
    rw [hexp, zpow_natCast]
    exact_mod_cast (Nat.floor_natCast (R := ℚ) _).symm
  · next h =>
    have hexp : (f32Scale x : Int) - 135 = -((135 - f32Scale x : Nat) : Int) := by omega
    rw [hexp, zpow_neg, zpow_natCast, ← div_eq_mul_inv]
    exact_mod_cast (Nat.floor_div_eq_div (K := ℚ) _ _).symm

/-- R13: a truncation is the floor of the magnitude with the sign of the number. -/
theorem isTrunc_abs {z : Int} {y : ℚ} (h : IsTrunc z y) : z.natAbs = ⌊|y|⌋₊ := by
  obtain ⟨-, hle, hlt⟩ := h
  have habs : ((z.natAbs : ℚ) : ℝ) = |(z : ℝ)| := by
    rw [Rat.cast_natCast, Nat.cast_natAbs, Int.cast_abs]
  rw [← habs] at hle hlt
  refine ((Nat.floor_eq_iff (abs_nonneg y)).2 ⟨?_, ?_⟩).symm
  · exact_mod_cast hle
  · exact_mod_cast hlt

theorem isTrunc_nonneg {z : Int} {y : ℚ} (h : IsTrunc z y) (hy : 0 ≤ y) : 0 ≤ z := by
  obtain ⟨hsign, hle, -⟩ := h
  by_contra hz
  have hzr : (z : ℝ) < 0 := by exact_mod_cast not_le.1 hz
  have hyr : (0 : ℝ) ≤ y := by exact_mod_cast hy
  rw [abs_of_neg hzr, abs_of_nonneg hyr] at hle
  exact absurd hsign (not_le.2 (mul_neg_of_neg_of_pos hzr (by linarith)))

theorem isTrunc_neg {z : Int} {y : ℚ} (h : IsTrunc z y) : IsTrunc (-z) ((-y : ℚ) : ℝ) := by
  simpa [IsTrunc] using h

/-- R112: a truncated value that fits is the one computed. -/
theorem f32ToFixed_of_isTrunc {z : Int} (hfin : f32Exponent x ≠ 255) (hz : IsTrunc z ((f32Value x : ℝ) * 2 ^ 15))
    (hlo : -2 ^ 31 ≤ z) (hhi : z ≤ 2 ^ 31 - 1) : f32ToFixed x = some z := by
  have hq : IsTrunc z ((f32Value x * 2 ^ 15 : ℚ) : ℝ) := by push_cast; exact hz
  have hmag : f32ScaledMagnitude x = z.natAbs := by
    rw [isTrunc_abs hq, f32ScaledMagnitude_eq_floor, abs_mul, abs_of_pos (by norm_num : (0 : ℚ) < 2 ^ 15)]
  have ht : (if f32Sign x then -(f32ScaledMagnitude x : Int) else f32ScaledMagnitude x) = z := by
    have hvalue := f32Value_eq_abs x
    have hpos := abs_nonneg (f32Value x)
    rw [hmag]
    split
    · next hs =>
      rw [if_pos hs] at hvalue
      have := isTrunc_nonneg (isTrunc_neg hq) (by linarith)
      omega
    · next hs =>
      rw [if_neg hs] at hvalue
      have := isTrunc_nonneg hq (by linarith)
      omega
  unfold f32ToFixed
  rw [if_neg hfin, ht]
  exact if_pos ⟨hlo, hhi⟩

end

/-- Settles O14: the operation always completes, and a truncated value that fits is the one computed. -/
theorem fromFloatTruncates : Obligations.FromFloatTruncates := by
  unfold Obligations.FromFloatTruncates
  intro opa s h
  refine ⟨⟨_, exec_fxFromFloat_ready h⟩, fun z hfin hz hlo hhi => ?_⟩
  rw [exec_fxFromFloat_ready h, fromFloat, f32ToFixed_of_isTrunc hfin hz hlo hhi]
  rfl

end Sys2Proof.Machine
end

section
/-! PROOFS. Rounding to the nearest binary32, ties to even (`spec/40_fixed_point.md` R113, `spec/46_magnitude_peak.md`
R235). In the binade of a number the binary32 values are the multiples of one power of two, `roundEven` rounds to the
nearest multiple, and every value below the binade is farther away than its least element. -/

namespace Sys2Proof.Machine

/-! ### Rounding to an integer -/

/-- The integer `r` is nearest to `w`, where a tie is even. -/
def RoundsEven (w : ℚ) (r : Nat) : Prop := |(r : ℚ) - w| ≤ 1 / 2 ∧ (|(r : ℚ) - w| = 1 / 2 → r % 2 = 0)

/-- No integer is nearer than the rounded one, and one that is as near leaves it even. -/
theorem RoundsEven.nearest {w : ℚ} {r : Nat} (h : RoundsEven w r) (j : Int) :
    |(r : ℚ) - w| ≤ |(j : ℚ) - w| ∧ (|(r : ℚ) - w| = |(j : ℚ) - w| → (j : ℚ) ≠ r → r % 2 = 0) := by
  obtain ⟨hhalf, heven⟩ := h
  by_cases hj : j = r
  · subst hj
    exact ⟨le_rfl, fun _ hne => absurd rfl hne⟩
  · have hapart : (1 : ℚ) ≤ |(j : ℚ) - r| := by exact_mod_cast Int.one_le_abs (sub_ne_zero.2 hj)
    have htriangle : |(j : ℚ) - r| ≤ |(j : ℚ) - w| + |(r : ℚ) - w| := by
      rw [abs_sub_comm (r : ℚ) w]
      exact abs_sub_le _ _ _
    exact ⟨by linarith, fun heq _ => heven (by linarith)⟩

/-- The exact quotient lies a remainder above the integer one. -/
theorem cast_div_eq_add_mod (num : Nat) {den : Nat} (hden : 0 < den) :
    (num : ℚ) / den = (num / den : Nat) + (num % den : Nat) / (den : ℚ) := by
  have hpos : (den : ℚ) ≠ 0 := by positivity
  field_simp
  exact_mod_cast (Nat.div_add_mod num den).symm

theorem roundsEven_down {q : Nat} {f : ℚ} (h0 : 0 ≤ f) (h : f ≤ 1 / 2) (htie : f = 1 / 2 → q % 2 = 0) :
    RoundsEven (q + f) q := by
  rw [RoundsEven, abs_of_nonpos (by linarith)]
  exact ⟨by linarith, fun heq => htie (by linarith)⟩

theorem roundsEven_up {q : Nat} {f : ℚ} (h : 1 / 2 ≤ f) (h1 : f ≤ 1) (htie : f = 1 / 2 → (q + 1) % 2 = 0) :
    RoundsEven (q + f) (q + 1) := by
  rw [RoundsEven, Nat.cast_add_one, abs_of_nonneg (by linarith)]
  exact ⟨by linarith, fun heq => htie (by linarith)⟩

/-- Rounding `q + (low + rest) / (2 * half)`: `low` is compared with `half`, and the sticky bit tells whether there is
a `rest`. -/
theorem roundsEven_ite {q low half : Nat} {rest : ℚ} {sticky : Bool} (hlow : low < 2 * half) (h0 : 0 ≤ rest)
    (h1 : rest < 1) (hsticky : sticky = false ↔ rest = 0) :
    RoundsEven (q + (low + rest) / (2 * half))
      (if half < low ∨ (low = half ∧ (sticky = true ∨ q % 2 = 1)) then q + 1 else q) := by
  have hhalf : (0 : ℚ) < half := by exact_mod_cast (by omega : 0 < half)
  have hlowq : (low : ℚ) + 1 ≤ 2 * half := by exact_mod_cast hlow
  have htie : (low + rest) / (2 * half) = 1 / 2 ↔ (low : ℚ) + rest = half := by
    rw [div_eq_div_iff (by positivity) (by norm_num)]
    constructor <;> intro h <;> linarith
  split
  · next hup =>
    have hge : (half : ℚ) ≤ low := by exact_mod_cast (by omega : half ≤ low)
    refine roundsEven_up ((div_le_div_iff₀ (by norm_num) (by positivity)).2 (by linarith))
      ((div_le_one (by positivity)).2 (by linarith)) fun hmid => ?_
    have hsum := htie.1 hmid
    have hrest : sticky = false := hsticky.2 (by linarith)
    have hle : low ≤ half := by exact_mod_cast (by linarith : (low : ℚ) ≤ half)
    obtain hgt | ⟨-, hs | hodd⟩ := hup
    · omega
    · exact absurd (hrest.symm.trans hs) Bool.false_ne_true
    · omega
  · next hdown =>
    obtain hlt | rfl : low < half ∨ low = half := by omega
    · have hltq : (low : ℚ) + 1 ≤ half := by exact_mod_cast hlt
      exact roundsEven_down (by positivity) ((div_le_div_iff₀ (by positivity) (by norm_num)).2 (by linarith))
        fun hmid => by linarith [htie.1 hmid]
    · have hsticky' : sticky = false := by simpa using fun hs => hdown (.inr ⟨rfl, .inl hs⟩)
      have heven : q % 2 = 0 := by
        have : q % 2 ≠ 1 := fun hq => hdown (.inr ⟨rfl, .inr hq⟩)
        omega
      have hrest := hsticky.1 hsticky'
      exact roundsEven_down (by positivity) ((div_le_div_iff₀ (by positivity) (by norm_num)).2 (by linarith))
        fun _ => heven

/-- R113: `roundEven` by the bits shifted out, against their half. -/
theorem roundEven_succ (m k : Nat) (sticky : Bool) : roundEven m (k + 1) sticky
    = if 2 ^ k < m % 2 ^ (k + 1) ∨ (m % 2 ^ (k + 1) = 2 ^ k ∧ (sticky = true ∨ m / 2 ^ (k + 1) % 2 = 1))
      then m / 2 ^ (k + 1) + 1 else m / 2 ^ (k + 1) := by
  unfold roundEven
  have hlt : 2 ^ (k + 1) < 2 * (m % 2 ^ (k + 1)) ↔ 2 ^ k < m % 2 ^ (k + 1) := by omega
  have heq : 2 * (m % 2 ^ (k + 1)) = 2 ^ (k + 1) ↔ m % 2 ^ (k + 1) = 2 ^ k := by omega
  simp only [hlt, heq]

/-- R113: `roundEven` rounds the number of which `m` is the integer part. -/
theorem roundEven_roundsEven (m k : Nat) {rest : ℚ} (h0 : 0 ≤ rest) (h1 : rest < 1) {sticky : Bool}
    (hsticky : sticky = false ↔ rest = 0) :
    RoundsEven ((m + rest) / 2 ^ (k + 1)) (roundEven m (k + 1) sticky) := by
  have hlow : m % 2 ^ (k + 1) < 2 * 2 ^ k := pow_succ' 2 k ▸ Nat.mod_lt m (Nat.two_pow_pos (k + 1))
  have hsplit : ((m : ℚ) + rest) / 2 ^ (k + 1)
      = (m / 2 ^ (k + 1) : Nat) + ((m % 2 ^ (k + 1) : Nat) + rest) / (2 * (2 ^ k : Nat)) := by
    have hm : (m : ℚ) = 2 ^ (k + 1) * (m / 2 ^ (k + 1) : Nat) + (m % 2 ^ (k + 1) : Nat) := by
      exact_mod_cast (Nat.div_add_mod m (2 ^ (k + 1))).symm
    rw [Nat.cast_pow, Nat.cast_ofNat, ← pow_succ' (2 : ℚ) k, ← mul_div_cancel_left₀ ((m / 2 ^ (k + 1) : Nat) : ℚ)
      (by positivity : (2 : ℚ) ^ (k + 1) ≠ 0), ← add_div, ← add_assoc, ← hm]
  rw [hsplit, roundEven_succ]
  exact roundsEven_ite hlow h0 h1 hsticky

theorem le_roundEven (m k : Nat) (sticky : Bool) : m / 2 ^ k ≤ roundEven m k sticky := by
  unfold roundEven
  dsimp only
  split <;> omega

theorem roundEven_le (m k : Nat) (sticky : Bool) : roundEven m k sticky ≤ m / 2 ^ k + 1 := by
  unfold roundEven
  dsimp only
  split <;> omega

/-! ### The binary32 values around a number -/

/-- Above `2 ^ (p + 23)` every value is a multiple of `2 ^ p`. -/
theorem f32Value_small_or_multiple (x : Word) (p : Int) :
    |f32Value x| < 2 ^ (p + 23) ∨ ∃ j : Int, f32Value x = j * 2 ^ p := by
  by_cases hp : p ≤ (f32Scale x : Int) - 150
  · right
    obtain ⟨d, hd⟩ := Int.le.dest hp
    refine ⟨(if f32Sign x then -1 else 1) * (f32Significand x * 2 ^ d), ?_⟩
    rw [f32Value_eq, ← hd, zpow_add₀ (by norm_num), zpow_natCast]
    push_cast
    ring
  · left
    have hsig : (f32Significand x : ℚ) < 2 ^ 24 := by exact_mod_cast f32Significand_lt x
    calc |f32Value x| = f32Significand x * 2 ^ ((f32Scale x : Int) - 150) := abs_f32Value x
      _ ≤ f32Significand x * 2 ^ (p - 1) := 
          mul_le_mul_of_nonneg_left (zpow_le_zpow_right₀ one_le_two (by omega)) (Nat.cast_nonneg _)
      _ < 2 ^ (24 : ℕ) * 2 ^ (p - 1) := by gcongr
      _ = 2 ^ (p + 23) := by
        rw [← zpow_natCast, ← zpow_add₀ (by norm_num)]
        congr 1
        push_cast
        ring

/-- The number rounded within its binade is the nearest binary32. -/
theorem nearestEven_of_roundsEven {v : ℚ} {p : Int} {n : Nat} {r : Word} (hfin : f32Exponent r ≠ 255)
    (hvalue : f32Value r = n * 2 ^ p) (hparity : f32Fraction r % 2 = n % 2) (hbinade : 2 ^ (p + 23) ≤ v)
    (hround : RoundsEven (v / 2 ^ p) n) : NearestEven v r := by
  have hpos : (0 : ℚ) < 2 ^ p := by positivity
  have hscale : ∀ j : ℚ, |j * 2 ^ p - v| = |j - v / 2 ^ p| * 2 ^ p := by
    intro j
    rw [← abs_of_pos hpos, ← abs_mul, abs_of_pos hpos]
    congr 1
    field_simp
  refine ⟨hfin, fun x _ => ?_⟩
  rw [hvalue, hparity, hscale]
  obtain hsmall | ⟨j, hj⟩ := f32Value_small_or_multiple x p
  · have hleast : (2 : ℚ) ^ (p + 23) = (2 ^ 23 : Int) * 2 ^ p := by
      rw [zpow_add₀ (by norm_num)]
      push_cast
      ring
    have hnear := (hround.nearest (2 ^ 23)).1
    have hfar : |((2 ^ 23 : Int) : ℚ) - v / 2 ^ p| * 2 ^ p < |f32Value x - v| := by
      rw [← hscale, ← hleast, abs_of_nonpos (by linarith), abs_of_neg (by linarith [le_abs_self (f32Value x)])]
      linarith [le_abs_self (f32Value x)]
    have hlt := (mul_le_mul_of_nonneg_right hnear hpos.le).trans_lt hfar
    exact ⟨hlt.le, fun heq => absurd heq hlt.ne⟩
  · obtain ⟨hnear, htie⟩ := hround.nearest j
    rw [hj, hscale]
    refine ⟨mul_le_mul_of_nonneg_right hnear hpos.le, fun heq hne => ?_⟩
    exact htie (mul_right_cancel₀ hpos.ne' heq) fun hjn => hne (by rw [hjn])

/-! ### The packed bits -/

/-- R120: an exponent and a significand of 24 bits with its leading bit, packed by addition; a significand that
rounding has carried to 2^24 moves into the exponent. -/
theorem f32_packed {e n : Nat} (he : e + 2 < 255) (hlo : 2 ^ 23 ≤ n) (hhi : n ≤ 2 ^ 24) :
    f32Exponent (BitVec.ofNat 32 (e * 2 ^ 23 + n)) ≠ 255
      ∧ f32Value (BitVec.ofNat 32 (e * 2 ^ 23 + n)) = n * 2 ^ ((e : Int) - 149)
      ∧ f32Fraction (BitVec.ofNat 32 (e * 2 ^ 23 + n)) % 2 = n % 2
      ∧ f32Sign (BitVec.ofNat 32 (e * 2 ^ 23 + n)) = false := by
  set x : Word := BitVec.ofNat 32 (e * 2 ^ 23 + n) with hx
  have hbits : x.toNat = e * 2 ^ 23 + n := by rw [hx, BitVec.toNat_ofNat, Nat.mod_eq_of_lt (by omega)]
  have hsign : f32Sign x = false := by
    rw [f32Sign, BitVec.getLsbD, hbits]
    exact Nat.testBit_lt_two_pow (by omega)
  have hexp : f32Exponent x = e + n / 2 ^ 23 := by rw [f32Exponent, hbits]; omega
  have hfrac : f32Fraction x = n % 2 ^ 23 := by rw [f32Fraction, hbits]; omega
  have hnormal : f32Exponent x ≠ 0 := by omega
  refine ⟨by omega, ?_, by omega, hsign⟩
  rw [f32Value, if_neg hnormal, hsign, hexp, hfrac]
  obtain hlt | rfl := hhi.lt_or_eq
  · obtain ⟨f, rfl⟩ := Nat.exists_eq_add_of_le hlo
    rw [show (2 ^ 23 + f) / 2 ^ 23 = 1 by omega, show (2 ^ 23 + f) % 2 ^ 23 = f by omega]
    push_cast
    rw [show (e : Int) + 1 - 150 = e - 149 by ring]
    norm_num
  · rw [show ((e + 2 ^ 24 / 2 ^ 23 : Nat) : Int) - 150 = ((e : Int) - 149) + 1 by push_cast; omega,
      zpow_add_one₀ (by norm_num)]
    norm_num
    ring

theorem f32Rne_zero (den : Nat) : f32Rne 0 den = 0 := by simp [f32Rne]

/-- R113, R235: `f32Rne` packs the rounded quotient, where the quotient with 64 fraction bits has `k + 25` bits. -/
theorem f32Rne_of_log2 {num den k : Nat} (hm0 : num * 2 ^ 64 / den ≠ 0) (hk : (num * 2 ^ 64 / den).log2 = k + 24) :
    f32Rne num den = BitVec.ofNat 32
      ((k + 86) * 2 ^ 23 + roundEven (num * 2 ^ 64 / den) (k + 1) (num * 2 ^ 64 % den ≠ 0)) := by
  unfold f32Rne
  dsimp only
  rw [if_neg hm0, hk, show k + 24 + 62 = k + 86 by omega, show k + 24 - 23 = k + 1 by omega]

/-- R113: a number of `k + 25` bits is rounded to 24 bits, or carries to 2^24. -/
theorem roundEven_mem_significand {m k : Nat} (hm0 : m ≠ 0) (hk : m.log2 = k + 24) (sticky : Bool) :
    2 ^ 23 ≤ roundEven m (k + 1) sticky ∧ roundEven m (k + 1) sticky ≤ 2 ^ 24 := by
  have hpos := Nat.two_pow_pos (k + 1)
  have hlo : 2 ^ 23 ≤ m / 2 ^ (k + 1) := by
    rw [Nat.le_div_iff_mul_le hpos, ← pow_add, show 23 + (k + 1) = m.log2 by omega]
    exact Nat.log2_self_le hm0
  have hhi : m / 2 ^ (k + 1) < 2 ^ 24 := by
    rw [Nat.div_lt_iff_lt_mul hpos, ← pow_add, show 24 + (k + 1) = m.log2 + 1 by omega]
    exact Nat.lt_log2_self
  have := le_roundEven m (k + 1) sticky
  have := roundEven_le m (k + 1) sticky
  omega

/-- R113, R235: `f32Rne` rounds a quotient that is not 0 to the nearest binary32, which has no sign. -/
theorem f32Rne_nearestEven_pos {num den : Nat} (hden : 0 < den) (hlo : den ≤ num * 2 ^ 40)
    (hhi : num < den * 2 ^ 127) :
    NearestEven ((num : ℚ) / den) (f32Rne num den) ∧ f32Sign (f32Rne num den) = false := by
  set m := num * 2 ^ 64 / den with hm
  have hmlo : 2 ^ 24 ≤ m := (Nat.le_div_iff_mul_le hden).2 (by omega)
  have hmhi : m < 2 ^ 191 := (Nat.div_lt_iff_lt_mul hden).2 (by omega)
  have hm0 : m ≠ 0 := by omega
  have hlog : m.log2 < 191 := (Nat.log2_lt hm0).2 hmhi
  obtain ⟨k, hk⟩ := Nat.exists_eq_add_of_le' ((Nat.le_log2 hm0).2 hmlo)
  have hscale : (num : ℚ) / den = ((num * 2 ^ 64 : Nat) : ℚ) / den / 2 ^ 64 := by
    rw [Nat.cast_mul, Nat.cast_pow, Nat.cast_ofNat, mul_div_right_comm, mul_div_cancel_right₀ _ (by positivity)]
  have hround : RoundsEven ((num : ℚ) / den / 2 ^ (((k + 86 : Nat) : Int) - 149))
      (roundEven m (k + 1) (num * 2 ^ 64 % den ≠ 0)) := by
    have hden' : (den : ℚ) ≠ 0 := by positivity
    have hexp : (2 : ℚ) ^ 64 * 2 ^ (((k + 86 : Nat) : Int) - 149) = 2 ^ (k + 1) := by
      rw [← zpow_natCast, ← zpow_natCast, ← zpow_add₀ (by norm_num)]
      congr 1
      push_cast
      ring
    rw [hscale, div_div, hexp, cast_div_eq_add_mod _ hden]
    refine roundEven_roundsEven m k (by positivity) ?_ (by simp [hden'])
    exact (div_lt_one (by positivity)).2 (by exact_mod_cast Nat.mod_lt _ hden)
  have hbinade : (2 : ℚ) ^ (((k + 86 : Nat) : Int) - 149 + 23) ≤ num / den := by
    have hexp : (2 : ℚ) ^ (((k + 86 : Nat) : Int) - 149 + 23) = 2 ^ (k + 24) / 2 ^ 64 := by
      rw [← zpow_natCast, ← zpow_natCast, ← zpow_sub₀ (by norm_num)]
      congr 1
      push_cast
      ring
    have hleast : (2 : ℚ) ^ (k + 24) ≤ m := by exact_mod_cast hk ▸ Nat.log2_self_le hm0
    rw [hexp, hscale]
    exact div_le_div_of_nonneg_right (hleast.trans Nat.cast_div_le) (by positivity)
  obtain ⟨hnlo, hnhi⟩ := roundEven_mem_significand hm0 hk (num * 2 ^ 64 % den ≠ 0)
  obtain ⟨hfin, hvalue, hparity, hsign⟩ := f32_packed (e := k + 86) (by omega) hnlo hnhi
  rw [f32Rne_of_log2 hm0 hk]
  exact ⟨nearestEven_of_roundsEven hfin hvalue hparity hbinade hround, hsign⟩

theorem nearestEven_zero : NearestEven 0 0 := by
  have hvalue : f32Value 0 = 0 := by simp [f32Value, f32Fraction, f32Exponent]
  refine ⟨by decide, fun x _ => ⟨?_, fun _ _ => by decide⟩⟩
  rw [hvalue, sub_zero, abs_zero]
  exact abs_nonneg _

/-- R113, R235: `f32Rne` rounds to the nearest binary32, within the range of log 19, and its result has no sign. -/
theorem f32Rne_nearestEven {num den : Nat} (hden : 0 < den) (hlo : num = 0 ∨ den ≤ num * 2 ^ 40)
    (hhi : num < den * 2 ^ 127) :
    NearestEven ((num : ℚ) / den) (f32Rne num den) ∧ f32Sign (f32Rne num den) = false := by
  obtain rfl | hlo := hlo
  · rw [f32Rne_zero, Nat.cast_zero, zero_div]
    exact ⟨nearestEven_zero, by decide⟩
  · exact f32Rne_nearestEven_pos hden hlo hhi

/-! ### Negative values -/

/-- R120: the sign bit is apart from the exponent and the fraction. -/
theorem f32_flipSign (x : Word) : f32Sign (x ^^^ 0x80000000) = !f32Sign x
    ∧ f32Exponent (x ^^^ 0x80000000) = f32Exponent x ∧ f32Fraction (x ^^^ 0x80000000) = f32Fraction x := by
  have hlow : (x ^^^ 0x80000000).toNat % 2 ^ 31 = x.toNat % 2 ^ 31 := by
    rw [BitVec.toNat_xor, Nat.xor_mod_two_pow]
    simp
  refine ⟨by simp [f32Sign], ?_, ?_⟩
  · unfold f32Exponent
    omega
  · unfold f32Fraction
    omega

theorem f32Value_flipSign (x : Word) : f32Value (x ^^^ 0x80000000) = -f32Value x := by
  obtain ⟨hsign, hexp, hfrac⟩ := f32_flipSign x
  simp only [f32Value, hsign, hexp, hfrac]
  cases f32Sign x
  · simp only [Bool.not_false, if_true, Bool.false_eq_true, if_false]
    ring
  · simp only [Bool.not_true, if_true, Bool.false_eq_true, if_false]
    ring

theorem abs_flipSign_sub (x : Word) (v : ℚ) : |f32Value (x ^^^ 0x80000000) - v| = |f32Value x - -v| := by
  rw [f32Value_flipSign, ← abs_neg]
  congr 1
  ring

/-- R113: rounding to nearest even is symmetric. -/
theorem NearestEven.flipSign {v : ℚ} {r : Word} (h : NearestEven v r) : NearestEven (-v) (r ^^^ 0x80000000) := by
  obtain ⟨hfin, hnear⟩ := h
  obtain ⟨-, hexp, hfrac⟩ := f32_flipSign r
  refine ⟨hexp ▸ hfin, fun x hx => ?_⟩
  obtain ⟨-, hxexp, -⟩ := f32_flipSign x
  obtain ⟨hle, htie⟩ := hnear (x ^^^ 0x80000000) (hxexp ▸ hx)
  rw [abs_flipSign_sub r, neg_neg, ← abs_flipSign_sub x, hfrac]
  refine ⟨hle, fun heq hne => htie heq fun h => hne ?_⟩
  rw [f32Value_flipSign, ← h, f32Value_flipSign, neg_neg]

/-- Setting a clear sign bit flips it. -/
theorem or_sign_eq_flip {x : Word} (h : f32Sign x = false) : x ||| 0x80000000 = x ^^^ 0x80000000 := by
  rw [show (0x80000000 : Word) = BitVec.twoPow 32 31 by decide]
  refine BitVec.eq_of_getLsbD_eq fun i hi => ?_
  rw [BitVec.getLsbD_or, BitVec.getLsbD_xor, BitVec.getLsbD_twoPow]
  by_cases h31 : i = 31
  · subst h31
    rw [show x.getLsbD 31 = false from h]
    rfl
  · rw [decide_eq_false (by omega : ¬ 31 = i), Bool.and_false, Bool.or_false, Bool.xor_false]

/-- R113: the magnitude is rounded, and the sign of a negative operand set. -/
theorem toFloat_nearestEven (a : Word) : NearestEven ((a.toInt : ℚ) / 2 ^ 15) (toFloat a) := by
  have hrange := toInt_range a
  obtain ⟨hmag, hsign⟩ := f32Rne_nearestEven (num := a.toInt.natAbs) (den := 2 ^ 15) (by decide) (by omega) (by omega)
  unfold toFloat
  dsimp only
  split
  · next hneg =>
    have hvalue : (a.toInt : ℚ) / 2 ^ 15 = -((a.toInt.natAbs : ℚ) / (2 ^ 15 : Nat)) := by
      rw [Nat.cast_natAbs, abs_of_neg hneg]
      push_cast
      ring
    rw [or_sign_eq_flip hsign, hvalue]
    exact hmag.flipSign
  · next hpos =>
    have hvalue : (a.toInt : ℚ) / 2 ^ 15 = (a.toInt.natAbs : ℚ) / (2 ^ 15 : Nat) := by
      rw [Nat.cast_natAbs, abs_of_nonneg (not_lt.1 hpos)]
      push_cast
      ring
    rw [hvalue]
    exact hmag

/-- Settles O15: the answer is `toFloat` of the operand, and that of 0 is +0.0. -/
theorem toFloatIsNearestEven : Obligations.ToFloatIsNearestEven := by
  unfold Obligations.ToFloatIsNearestEven
  intro opa s h
  refine ⟨toFloat opa, exec_fxToFloat_ready h, toFloat_nearestEven opa, fun h0 => ?_⟩
  subst h0
  decide

end Sys2Proof.Machine
end

section
/-! PROOFS. Units 2 and 3, the tables (`spec/41_luts.md` R131 to R140): what a read answers, the symmetries of the
contents at the full length and, by sub-sampling, at every shorter one, and the exact reals behind the two shortest
tables. -/

namespace Sys2Proof.Machine

/-! ### The reads -/

section

variable {s : State} {a : Word}

theorem exec_sinDds_ready (h : s.readyFor (.sinDds a)) :
    exec (.sinDds a) s = .next (s.answer .ok (sine256 (tableIndex 256 a))) := exec_pure_ready h rfl

theorem exec_sinFft_ready (h : s.readyFor (.sinFft a)) :
    exec (.sinFft a) s = .next (s.answer .ok (sineN s.cfg.n (tableIndex s.cfg.n a))) := exec_pure_ready h rfl

theorem exec_cosFft_ready (h : s.readyFor (.cosFft a)) : exec (.cosFft a) s
    = .next (s.answer .ok (sineN s.cfg.n ((tableIndex s.cfg.n a + s.cfg.n / 4) % s.cfg.n))) :=
  exec_pure_ready h rfl

theorem exec_hannRd_ready (h : s.readyFor (.hannRd a)) :
    exec (.hannRd a) s = .next (s.answer .ok (hann s.cfg.n (tableIndex s.cfg.n a))) := exec_pure_ready h rfl

end

/-- Settles O16: each read answers the entry at its index port, and the port of a power of two is the remainder. -/
theorem tableReads : Obligations.TableReads := by
  unfold Obligations.TableReads
  intro opa s hn
  have hport : tableIndex s.cfg.n opa = opa.toNat % s.cfg.n := tableIndex_pow2 _ _ hn
  have hport256 : tableIndex 256 opa = opa.toNat % 256 := tableIndex_pow2 256 opa (by decide)
  refine ⟨fun h => ?_, fun h => ?_, fun h => ?_, fun h => ?_⟩
  · rw [exec_sinDds_ready h, hport256]
    rfl
  · rw [exec_sinFft_ready h, hport]
    rfl
  · rw [exec_cosFft_ready h, hport, Nat.mod_add_mod]
    rfl
  · rw [exec_hannRd_ready h, hport]
    rfl

/-! ### Lists and their mirror images -/

/-- Entry `i` of a table in parts of 128 is entry `i` of the parts in a row. -/
theorem partEntry_eq_flatten {parts : List (List Int)} (h : ∀ p ∈ parts, p.length = 128) (i : Nat) :
    partEntry parts i = parts.flatten.getD i 0 := by
  unfold partEntry
  induction parts generalizing i with
  | nil => simp
  | cons p rest ih =>
    have hp : p.length = 128 := h p List.mem_cons_self
    rw [List.flatten_cons]
    rcases Nat.lt_or_ge i 128 with hlow | hhigh
    · rw [Nat.div_eq_of_lt hlow, Nat.mod_eq_of_lt hlow, List.getD_append _ _ _ _ (hp ▸ hlow)]
      rfl
    · obtain ⟨j, rfl⟩ := Nat.exists_eq_add_of_le' hhigh
      rw [List.getD_append_right _ _ _ _ (hp ▸ hhigh), hp, Nat.add_sub_cancel,
        ← ih (fun q hq => h q (List.mem_cons_of_mem p hq)), Nat.add_div_right j (by decide), Nat.add_mod_right]
      rfl

/-- A stretch of `m` entries from `a` on that reads the same backwards. -/
def Mirrored (l : List Int) (a m : Nat) : Prop :=
  ((l.drop a).take m).length = m ∧ ((l.drop a).take m).reverse = (l.drop a).take m

theorem Mirrored.getD_eq {l : List Int} {a m k : Nat} (h : Mirrored l a m) (hk : k < m) :
    l.getD (a + (m - 1 - k)) 0 = l.getD (a + k) 0 := by
  obtain ⟨hlen, hrev⟩ := h
  have hback : ((l.drop a).take m).reverse[k]? = ((l.drop a).take m)[m - 1 - k]? := by
    rw [List.getElem?_reverse (by omega), hlen]
  rw [hrev, List.getElem?_take_of_lt hk, List.getElem?_take_of_lt (by omega), List.getElem?_drop,
    List.getElem?_drop] at hback
  rw [List.getD_eq_getElem?_getD, List.getD_eq_getElem?_getD, hback]

/-- R134: the sub-sample of every fourth entry. -/
def everyFourth : List Int → List Int
  | x :: _ :: _ :: _ :: rest => x :: everyFourth rest
  | short => short.take 1

theorem everyFourth_getD (l : List Int) (i : Nat) : (everyFourth l).getD i 0 = l.getD (4 * i) 0 := by
  induction l using everyFourth.induct generalizing i with
  | case1 x y z w rest ih =>
    cases i with
    | zero => rfl
    | succ i => exact ih i
  | case2 short hshort =>
    match short, hshort with
    | [], _ | [_], _ | [_, _], _ | [_, _, _], _ => cases i <;> rfl
    | x :: y :: z :: w :: rest, hs => exact absurd rfl (hs x y z w rest)

/-! ### The listed contents -/

/-- R140 and R134: what is checked over every entry of the lists of `spec/42_lut_data.md`. -/
structure ListedContents : Prop where
  full : ∀ parts ∈ [sine1024, hann1024, sine256Parts], ∀ p ∈ parts, p.length = 128
  halves : sine1024.flatten.drop 512 = (sine1024.flatten.take 512).map (-·)
  sineMirrored : Mirrored sine1024.flatten 0 513
  hannMirrored : Mirrored hann1024.flatten 1 1023
  fourth : sine256Parts.flatten = everyFourth sine1024.flatten

theorem listedContents : ListedContents where
  full := by decide +kernel
  halves := by decide +kernel
  sineMirrored := by
    unfold Mirrored
    decide +kernel
  hannMirrored := by
    unfold Mirrored
    decide +kernel
  fourth := by decide +kernel

theorem sine1024_entry (i : Nat) : partEntry sine1024 i = sine1024.flatten.getD i 0 :=
  partEntry_eq_flatten (listedContents.full _ (by simp)) i

theorem hann1024_entry (i : Nat) : partEntry hann1024 i = hann1024.flatten.getD i 0 :=
  partEntry_eq_flatten (listedContents.full _ (by simp)) i

/-- R134: `SINE256` is a sub-sample. -/
theorem sine256Parts_entry (i : Nat) : partEntry sine256Parts i = partEntry sine1024 (4 * i) := by
  rw [partEntry_eq_flatten (listedContents.full _ (by simp)), listedContents.fourth, everyFourth_getD, sine1024_entry]

theorem sine1024_add_half {i : Nat} (hi : i < 512) : partEntry sine1024 (i + 512) = -partEntry sine1024 i := by
  have hlater : sine1024.flatten[512 + i]? = (sine1024.flatten[i]?).map (-·) := by
    rw [← List.getElem?_drop, listedContents.halves, List.getElem?_map, List.getElem?_take_of_lt hi]
  rw [sine1024_entry, sine1024_entry, List.getD_eq_getElem?_getD, List.getD_eq_getElem?_getD, Nat.add_comm, hlater]
  cases sine1024.flatten[i]? <;> rfl

theorem sine1024_half_sub {i : Nat} (hi : i ≤ 512) : partEntry sine1024 (512 - i) = partEntry sine1024 i := by
  have h := listedContents.sineMirrored.getD_eq (k := i) (by omega)
  rwa [Nat.zero_add, Nat.zero_add, ← sine1024_entry, ← sine1024_entry] at h

/-- R140: the window's mirror image leaves out entry 0. -/
theorem hann1024_sub {i : Nat} (h0 : 0 < i) (hi : i < 1024) :
    partEntry hann1024 (1024 - i) = partEntry hann1024 i := by
  have h := listedContents.hannMirrored.getD_eq (k := i - 1) (by omega)
  rwa [show 1 + (1023 - 1 - (i - 1)) = 1024 - i by omega, Nat.add_sub_cancel' h0, ← hann1024_entry,
    ← hann1024_entry] at h

/-- R140: the full-cycle symmetry follows from the two half-cycle ones. -/
theorem sine1024_sub {i : Nat} (h0 : 0 < i) (hi : i < 1024) :
    partEntry sine1024 (1024 - i) = -partEntry sine1024 i := by
  rcases Nat.le_total i 512 with hlow | hhigh
  · calc partEntry sine1024 (1024 - i)
        = partEntry sine1024 (512 - i + 512) := congrArg _ (by omega)
      _ = -partEntry sine1024 (512 - i) := sine1024_add_half (by omega)
      _ = -partEntry sine1024 i := by rw [sine1024_half_sub hlow]
  · obtain ⟨j, rfl⟩ := Nat.exists_eq_add_of_le' hhigh
    calc partEntry sine1024 (1024 - (j + 512))
        = partEntry sine1024 (512 - j) := congrArg _ (by omega)
      _ = partEntry sine1024 j := sine1024_half_sub (by omega)
      _ = -partEntry sine1024 (j + 512) := by rw [sine1024_add_half (i := j) (by omega), neg_neg]

/-! ### Sub-sampling -/

theorem wrap32_neg (z : Int) : wrap32 (-z) = -wrap32 z := BitVec.ofInt_neg

section

variable {n d i : Nat}

/-- R134: a table of `n` entries is every `d`-th entry of the list, `n * d` being 1024. -/
theorem sineN_of_mul (hd : n * d = 1024) (hi : i < n) : sineN n i = wrap32 (partEntry sine1024 (i * d)) := by
  have hn : n ≤ 1024 := Nat.le_of_dvd (by decide) ⟨d, hd.symm⟩
  rw [sineN, if_pos hn, Nat.mod_eq_of_lt hi, ← hd, Nat.mul_div_cancel_left d (by omega)]

/-- R135: likewise for the window. -/
theorem hann_of_mul (hd : n * d = 1024) (hi : i < n) : hann n i = wrap32 (partEntry hann1024 (i * d)) := by
  have hn : n ≤ 1024 := Nat.le_of_dvd (by decide) ⟨d, hd.symm⟩
  rw [hann, if_pos hn, Nat.mod_eq_of_lt hi, ← hd, Nat.mul_div_cancel_left d (by omega)]

theorem scaled_bounds (hd : n * d = 1024) (h0 : 0 < i) (hi : i < n) : 0 < i * d ∧ i * d < 1024 := by
  have hdpos : 0 < d := Nat.pos_of_ne_zero fun h => by simp [h] at hd
  exact ⟨Nat.mul_pos h0 hdpos, hd ▸ Nat.mul_lt_mul_of_pos_right hi hdpos⟩

theorem sineN_sub (hd : n * d = 1024) (h0 : 0 < i) (hi : i < n) : sineN n (n - i) = -sineN n i := by
  obtain ⟨hpos, hlt⟩ := scaled_bounds hd h0 hi
  rw [sineN_of_mul hd (Nat.sub_lt (by omega) h0), sineN_of_mul hd hi, Nat.sub_mul, hd, sine1024_sub hpos hlt,
    wrap32_neg]

theorem hann_sub (hd : n * d = 1024) (h0 : 0 < i) (hi : i < n) : hann n (n - i) = hann n i := by
  obtain ⟨hpos, hlt⟩ := scaled_bounds hd h0 hi
  rw [hann_of_mul hd (Nat.sub_lt (by omega) h0), hann_of_mul hd hi, Nat.sub_mul, hd, hann1024_sub hpos hlt]

/-- Half of an even length takes half the list. -/
theorem half_mul (hd : n * d = 1024) (h2 : 2 ∣ n) : n / 2 * d = 512 := by
  obtain ⟨m, rfl⟩ := h2
  rw [Nat.mul_div_cancel_left m (by decide)]
  have hm : 2 * (m * d) = 1024 := by rw [← Nat.mul_assoc, hd]
  omega

theorem sineN_half_sub (hd : n * d = 1024) (h2 : 2 ∣ n) (hi : i ≤ n / 2) (hin : i < n) :
    sineN n (n / 2 - i) = sineN n i := by
  have hle : i * d ≤ 512 := half_mul hd h2 ▸ Nat.mul_le_mul_right d hi
  rw [sineN_of_mul hd (by omega), sineN_of_mul hd hin, Nat.sub_mul, half_mul hd h2, sine1024_half_sub hle]

theorem sineN_add_half (hd : n * d = 1024) (h2 : 2 ∣ n) (hi : i < n / 2) :
    sineN n (i + n / 2) = -sineN n i := by
  have hdpos : 0 < d := Nat.pos_of_ne_zero fun h => by simp [h] at hd
  have hlt : i * d < 512 := half_mul hd h2 ▸ Nat.mul_lt_mul_of_pos_right hi hdpos
  rw [sineN_of_mul hd (by omega), sineN_of_mul hd (by omega), Nat.add_mul, half_mul hd h2,
    sine1024_add_half hlt, wrap32_neg]

/-- The powers of two from 4 to 1024 are even divisors of 1024. -/
theorem pow2_divides (hn : isPow2 n = true) (h4 : 4 ≤ n) (hle : n ≤ 1024) : 2 ∣ n ∧ ∃ d, n * d = 1024 := by
  rw [isPow2_eq hn] at h4 hle ⊢
  have hlo : 2 ≤ n.log2 := (Nat.pow_le_pow_iff_right (by decide : 1 < 2)).1 h4
  have hhi : n.log2 ≤ 10 := (Nat.pow_le_pow_iff_right (by decide : 1 < 2)).1 hle
  exact ⟨dvd_pow_self 2 (by omega), 2 ^ (10 - n.log2), (pow_mul_pow_sub 2 hhi).trans rfl⟩

end

/-- Settles O17: the symmetries of the lists carry over to every sub-sample, and `SINE256` is one. -/
theorem tableSymmetries : Obligations.TableSymmetries := by
  unfold Obligations.TableSymmetries
  refine ⟨fun n i hn h4 hle hi => ?_, fun i hi => ?_⟩
  · obtain ⟨h2, d, hd⟩ := pow2_divides hn h4 hle
    exact ⟨fun h0 => ⟨sineN_sub hd h0 hi, hann_sub hd h0 hi⟩, fun hhalf => sineN_half_sub hd h2 hhalf hi,
      sineN_add_half hd h2⟩
  · rw [sineN_of_mul (d := 1) (by decide) (by omega), Nat.mul_one, sine256, Nat.mod_eq_of_lt hi,
      sine256Parts_entry]

/-! ### The exact reals -/

theorem isTrunc_of_nonneg {z : Int} {y : ℝ} (hz : 0 ≤ z) (hle : (z : ℝ) ≤ y) (hlt : y < z + 1) :
    IsTrunc z y := by
  have hzr : (0 : ℝ) ≤ z := by exact_mod_cast hz
  have hy : 0 ≤ y := hzr.trans hle
  rw [IsTrunc, abs_of_nonneg hzr, abs_of_nonneg hy]
  exact ⟨mul_nonneg hzr hy, hle, hlt⟩

/-- R132: truncation is odd. -/
theorem IsTrunc.neg {z : Int} {y : ℝ} (h : IsTrunc z y) : IsTrunc (-z) (-y) := by
  simpa [IsTrunc] using h

theorem sqrt_two_bounds : 23170 / 16384 < √(2 : ℝ) ∧ √(2 : ℝ) < 23171 / 16384 :=
  ⟨Real.lt_sqrt_of_sq_lt (by norm_num), (Real.sqrt_lt' (by norm_num)).2 (by norm_num)⟩

/-- The angle of index `i` in a table of 8 entries, the parameter of R134 and R135. -/
noncomputable def eighthAngle (i : Nat) : ℝ := 2 * Real.pi * i / 8

theorem eighthAngle_zero : eighthAngle 0 = 0 := by simp [eighthAngle]

theorem eighthAngle_one : eighthAngle 1 = Real.pi / 4 := by
  unfold eighthAngle
  push_cast
  ring

theorem eighthAngle_two : eighthAngle 2 = Real.pi / 2 := by
  unfold eighthAngle
  push_cast
  ring

theorem eighthAngle_add_four (i : Nat) : eighthAngle (i + 4) = eighthAngle i + Real.pi := by
  unfold eighthAngle
  push_cast
  ring

theorem eighthAngle_half_sub {i : Nat} (hi : i ≤ 4) : eighthAngle (4 - i) = Real.pi - eighthAngle i := by
  unfold eighthAngle
  push_cast [hi]
  ring

theorem eighthAngle_sub {i : Nat} (hi : i ≤ 8) : eighthAngle (8 - i) = 2 * Real.pi - eighthAngle i := by
  unfold eighthAngle
  push_cast [hi]
  ring

/-- The exact sine of R134, for `N` = 8. -/
noncomputable def exactSine (i : Nat) : ℝ := 2 ^ 15 * Real.sin (eighthAngle i)

/-- The exact window of R135, for `N` = 8. -/
noncomputable def exactHann (i : Nat) : ℝ := 2 ^ 15 * (1 / 2 * (1 - Real.cos (eighthAngle i)))

theorem sineN_eight_trunc_quarter {i : Nat} (hi : i ≤ 2) : IsTrunc (sineN 8 i).toInt (exactSine i) := by
  obtain ⟨hlo, hhi⟩ := sqrt_two_bounds
  unfold exactSine
  interval_cases i
  · rw [show (sineN 8 0).toInt = 0 by decide, eighthAngle_zero, Real.sin_zero]
    exact isTrunc_of_nonneg (by decide) (by norm_num) (by norm_num)
  · rw [show (sineN 8 1).toInt = 23170 by decide, eighthAngle_one, Real.sin_pi_div_four]
    exact isTrunc_of_nonneg (by decide) (by push_cast; linarith) (by push_cast; linarith)
  · rw [show (sineN 8 2).toInt = 32768 by decide, eighthAngle_two, Real.sin_pi_div_two]
    exact isTrunc_of_nonneg (by decide) (by norm_num) (by norm_num)

theorem sineN_eight_trunc_half {i : Nat} (hi : i ≤ 4) : IsTrunc (sineN 8 i).toInt (exactSine i) := by
  rcases Nat.le_total i 2 with hlow | hhigh
  · exact sineN_eight_trunc_quarter hlow
  · have htable : sineN 8 (4 - i) = sineN 8 i := sineN_half_sub (d := 128) rfl (by decide) hi (by omega)
    have hreal : exactSine (4 - i) = exactSine i := by
      rw [exactSine, eighthAngle_half_sub hi, Real.sin_pi_sub, exactSine]
    rw [← htable, ← hreal]
    exact sineN_eight_trunc_quarter (by omega)

theorem toInt_sineN_eight_add_four : ∀ i < 4, (sineN 8 (i + 4)).toInt = -(sineN 8 i).toInt := by decide

/-- R134: the second half of the cycle is minus the first, and the second quarter mirrors the first. -/
theorem sineN_eight_trunc {i : Nat} (hi : i < 8) : IsTrunc (sineN 8 i).toInt (exactSine i) := by
  rcases Nat.lt_or_ge i 4 with hlow | hhigh
  · exact sineN_eight_trunc_half hlow.le
  · obtain ⟨j, rfl⟩ := Nat.exists_eq_add_of_le' hhigh
    have hreal : exactSine (j + 4) = -exactSine j := by
      rw [exactSine, eighthAngle_add_four, Real.sin_add_pi, exactSine, mul_neg]
    rw [toInt_sineN_eight_add_four j (by omega), hreal]
    exact (sineN_eight_trunc_half (by omega)).neg

theorem hann_eight_trunc_half {i : Nat} (hi : i ≤ 4) : IsTrunc (hann 8 i).toInt (exactHann i) := by
  obtain ⟨hlo, hhi⟩ := sqrt_two_bounds
  unfold exactHann
  interval_cases i
  · rw [show (hann 8 0).toInt = 0 by decide, eighthAngle_zero, Real.cos_zero]
    exact isTrunc_of_nonneg (by decide) (by norm_num) (by norm_num)
  · rw [show (hann 8 1).toInt = 4798 by decide, eighthAngle_one, Real.cos_pi_div_four]
    exact isTrunc_of_nonneg (by decide) (by push_cast; linarith) (by push_cast; linarith)
  · rw [show (hann 8 2).toInt = 16384 by decide, eighthAngle_two, Real.cos_pi_div_two]
    exact isTrunc_of_nonneg (by decide) (by norm_num) (by norm_num)
  · rw [show (hann 8 3).toInt = 27969 by decide, eighthAngle_half_sub (i := 1) (by decide), Real.cos_pi_sub,
      eighthAngle_one, Real.cos_pi_div_four]
    exact isTrunc_of_nonneg (by decide) (by push_cast; linarith) (by push_cast; linarith)
  · rw [show (hann 8 4).toInt = 32768 by decide, eighthAngle_half_sub (i := 0) (by decide), Real.cos_pi_sub,
      eighthAngle_zero, Real.cos_zero]
    exact isTrunc_of_nonneg (by decide) (by norm_num) (by norm_num)

/-- R135: the second half of the window mirrors the first. -/
theorem hann_eight_trunc {i : Nat} (hi : i < 8) : IsTrunc (hann 8 i).toInt (exactHann i) := by
  rcases Nat.le_total i 4 with hlow | hhigh
  · exact hann_eight_trunc_half hlow
  · have htable : hann 8 (8 - i) = hann 8 i := hann_sub (d := 128) rfl (by omega) hi
    have hreal : exactHann (8 - i) = exactHann i := by
      rw [exactHann, eighthAngle_sub hi.le, Real.cos_two_pi_sub, exactHann]
    rw [← htable, ← hreal]
    exact hann_eight_trunc_half (by omega)

/-- R134, R135: the tables of 4 entries are every second entry of those of 8. -/
theorem four_is_every_second_of_eight {i : Nat} (hi : i < 4) :
    sineN 4 i = sineN 8 (2 * i) ∧ hann 4 i = hann 8 (2 * i) := by
  have hstep : 2 * i * 128 = i * 256 := by omega
  rw [sineN_of_mul (d := 256) rfl hi, hann_of_mul (d := 256) rfl hi, sineN_of_mul (d := 128) rfl (by omega),
    hann_of_mul (d := 128) rfl (by omega), hstep]
  exact ⟨rfl, rfl⟩

theorem eighthAngle_two_mul (i : Nat) : eighthAngle (2 * i) = 2 * Real.pi * i / 4 := by
  unfold eighthAngle
  push_cast
  ring

/-- Settles O18: at `N` = 8 from the exact values at the eighths of the cycle, and `N` = 4 is contained in it. -/
theorem tablesAreTruncatedReals : Obligations.TablesAreTruncatedReals := by
  unfold Obligations.TablesAreTruncatedReals
  rintro n i (rfl | rfl) hi
  · obtain ⟨hsine, hhann⟩ := four_is_every_second_of_eight hi
    rw [hsine, hhann, Nat.cast_ofNat, ← eighthAngle_two_mul]
    exact ⟨sineN_eight_trunc (by omega), hann_eight_trunc (by omega)⟩
  · rw [Nat.cast_ofNat]
    exact ⟨sineN_eight_trunc hi, hann_eight_trunc hi⟩

end Sys2Proof.Machine
end

section
/-! PROOFS. The contents of the tables (`spec/42_lut_data.md` R150 to R153): an entry read is the number listed, so
each claim about the words is one about the lists of integers, and is checked over their parts of 128 numbers, which
are short enough for `decide` to run through. -/

namespace Sys2Proof.Machine

/-! ### An entry is the number listed -/

theorem listed_full {parts : List (List Int)} (hp : parts ∈ [sine1024, hann1024, sine256Parts]) :
    ∀ p ∈ parts, p.length = 128 := ListedContents.full listedContents parts hp

theorem forall_getD {α : Type} {P : α → Prop} {l : List α} {d : α} (hd : P d) (h : ∀ x ∈ l, P x) (i : Nat) :
    P (l.getD i d) := by
  rcases Nat.lt_or_ge i l.length with hlow | hhigh
  · rw [List.getD_eq_getElem _ _ hlow]
    exact h _ (List.getElem_mem hlow)
  · rwa [List.getD_eq_default _ _ hhigh]

theorem listed_natAbs_le {parts : List (List Int)} (hp : parts ∈ [sine1024, hann1024, sine256Parts]) :
    ∀ p ∈ parts, ∀ x ∈ p, x.natAbs ≤ 2 ^ 15 := by
  have hall : ∀ parts ∈ [sine1024, hann1024, sine256Parts], ∀ p ∈ parts,
      (p.all fun x => x.natAbs ≤ 2 ^ 15) = true := by decide
  exact fun p hpart => List.all_iff_forall_prop.1 (hall parts hp p hpart)

theorem toInt_wrap32_of_natAbs_le {z : Int} (h : z.natAbs ≤ 2 ^ 15) : (wrap32 z).toInt = z := by
  rw [wrap32_toInt]
  exact Int.bmod_eq_of_le (by omega) (by omega)

theorem toInt_wrap32_partEntry {parts : List (List Int)} (hp : parts ∈ [sine1024, hann1024, sine256Parts])
    (i : Nat) : (wrap32 (partEntry parts i)).toInt = partEntry parts i := by
  have hpart : ∀ x ∈ parts.getD (i / 128) [], x.natAbs ≤ 2 ^ 15 :=
    forall_getD (P := fun p : List Int => ∀ x ∈ p, x.natAbs ≤ 2 ^ 15) (by simp) (listed_natAbs_le hp) _
  exact toInt_wrap32_of_natAbs_le (forall_getD (P := fun x : Int => x.natAbs ≤ 2 ^ 15) (by decide) hpart _)

theorem toInt_sineN_default {i : Nat} (hi : i < 1024) : (sineN 1024 i).toInt = partEntry sine1024 i := by
  rw [sineN_of_mul (d := 1) rfl hi, Nat.mul_one, toInt_wrap32_partEntry (by simp)]

theorem toInt_hann_default {i : Nat} (hi : i < 1024) : (hann 1024 i).toInt = partEntry hann1024 i := by
  rw [hann_of_mul (d := 1) rfl hi, Nat.mul_one, toInt_wrap32_partEntry (by simp)]

theorem toInt_sine256 {i : Nat} (hi : i < 256) : (sine256 i).toInt = partEntry sine256Parts i := by
  rw [sine256, Nat.mod_eq_of_lt hi, toInt_wrap32_partEntry (by simp)]

/-! ### The sums -/

/-- The sum of index times entry over a stretch that starts at index `k`. -/
def weightedSum : Int → List Int → Int
  | _, [] => 0
  | k, x :: rest => k * x + weightedSum (k + 1) rest

theorem weightedSum_eq_zipIdx (l : List Int) (k : Nat) :
    weightedSum k l = ((l.zipIdx k).map fun p : Int × Nat => p.2 * p.1).sum := by
  induction l generalizing k with
  | nil => rfl
  | cons x rest ih => simpa [weightedSum] using ih (k + 1)

theorem weightedSum_append (l m : List Int) (k : Int) :
    weightedSum k (l ++ m) = weightedSum k l + weightedSum (k + l.length) m := by
  induction l generalizing k with
  | nil => simp [weightedSum]
  | cons x rest ih => simp [weightedSum, ih, ← add_assoc, add_right_comm k 1]

/-- The same sum, part by part. -/
def weightedPartsSum : Int → List (List Int) → Int
  | _, [] => 0
  | k, p :: rest => weightedSum k p + weightedPartsSum (k + 128) rest

theorem weightedPartsSum_eq_flatten {parts : List (List Int)} (hfull : ∀ p ∈ parts, p.length = 128) (k : Int) :
    weightedPartsSum k parts = weightedSum k parts.flatten := by
  induction parts generalizing k with
  | nil => rfl
  | cons p rest ih =>
    rw [weightedPartsSum, ih fun q hq => hfull q (List.mem_cons_of_mem p hq), List.flatten_cons,
      weightedSum_append, hfull p List.mem_cons_self]
    rfl

theorem length_flatten_parts {parts : List (List Int)} (hfull : ∀ p ∈ parts, p.length = 128) :
    parts.flatten.length = 128 * parts.length := by
  rw [List.length_flatten, List.map_congr_left hfull, List.map_const', List.sum_replicate_nat, Nat.mul_comm]

theorem foldl_add_eq_sum_map (f : Nat → Int) (l : List Nat) :
    l.foldl (fun acc i => acc + f i) 0 = (l.map f).sum := by
  rw [List.sum_eq_foldl, List.foldl_map]

/-- `SUM` and `WSUM` of a table, part by part. -/
theorem tableChecks_eq_parts {parts : List (List Int)} {n : Nat} {entry : Nat → Word}
    (hfull : ∀ p ∈ parts, p.length = 128) (hn : 128 * parts.length = n)
    (h : ∀ i < n, (entry i).toInt = partEntry parts i) :
    tableChecks n entry = ((parts.map List.sum).sum % 2 ^ 32, weightedPartsSum 0 parts % 2 ^ 32) := by
  have hlen : parts.flatten.length = n := (length_flatten_parts hfull).trans hn
  have hentry (i : Nat) (hi : i < parts.flatten.length) : (entry i).toInt = parts.flatten[i] := by
    rw [h i (hlen ▸ hi), partEntry_eq_flatten hfull, List.getD_eq_getElem _ _ hi]
  have hsum : (List.range n).map (fun i => (entry i).toInt) = parts.flatten :=
    List.ext_getElem (by simp [hlen]) fun i _ hi => by simp [hentry i hi]
  have hweighted :
      (List.range n).map (fun i => i * (entry i).toInt) = parts.flatten.zipIdx.map fun p : Int × Nat => p.2 * p.1 :=
    List.ext_getElem (by simp [hlen]) fun i _ hi => by simp [hentry i (by simpa using hi)]
  simp only [tableChecks, foldl_add_eq_sum_map, hsum, hweighted, List.sum_flatten,
    weightedPartsSum_eq_flatten hfull, ← weightedSum_eq_zipIdx, Nat.cast_zero]

theorem tableChecks_sineN : tableChecks 1024 (sineN 1024) = (0, 3121547264) := by
  rw [tableChecks_eq_parts (parts := sine1024) (n := 1024) (listed_full (by simp)) rfl fun _ => toInt_sineN_default]
  decide_cbv

theorem tableChecks_hann : tableChecks 1024 (hann 1024) = (16776706, 4294706176) := by
  rw [tableChecks_eq_parts (parts := hann1024) (n := 1024) (listed_full (by simp)) rfl fun _ => toInt_hann_default]
  decide_cbv

theorem tableChecks_sine256 : tableChecks 256 sine256 = (0, 3953209344) := by
  rw [tableChecks_eq_parts (parts := sine256Parts) (n := 256) (listed_full (by simp)) rfl fun _ => toInt_sine256]
  decide_cbv

/-! ### Parts, and the entries that belong together -/

section

variable {parts : List (List Int)} {k j : Nat}

theorem part_length (hfull : ∀ p ∈ parts, p.length = 128) (hk : k < parts.length) :
    (parts.getD k []).length = 128 := by
  rw [List.getD_eq_getElem _ _ hk, hfull _ (List.getElem_mem hk)]

theorem part_getElem? (hfull : ∀ p ∈ parts, p.length = 128) (hk : k < parts.length) (hj : j < 128) :
    (parts.getD k [])[j]? = some (partEntry parts (128 * k + j)) := by
  have hlen : j < (parts.getD k []).length := part_length hfull hk ▸ hj
  rw [partEntry, show (128 * k + j) / 128 = k by omega, show (128 * k + j) % 128 = j by omega,
    List.getElem?_eq_getElem hlen, List.getD_eq_getElem _ _ hlen]

/-- The 256 entries from the beginning of part `k` on. -/
def twoParts (parts : List (List Int)) (k : Nat) : List Int := parts.getD k [] ++ parts.getD (k + 1) []

theorem twoParts_getElem? (hfull : ∀ p ∈ parts, p.length = 128) (hk : k + 1 < parts.length) (hj : j < 256) :
    (twoParts parts k)[j]? = some (partEntry parts (128 * k + j)) := by
  have hlen := part_length hfull (Nat.lt_of_succ_lt hk)
  rcases Nat.lt_or_ge j 128 with hlow | hhigh
  · rw [twoParts, List.getElem?_append_left (hlen ▸ hlow), part_getElem? hfull (Nat.lt_of_succ_lt hk) hlow]
  · rw [twoParts, List.getElem?_append_right (hlen ▸ hhigh), hlen, part_getElem? hfull hk (by omega),
      show 128 * (k + 1) + (j - 128) = 128 * k + j by omega]

/-- The sub-sample at the doubled angles. -/
def everyOther : List Int → List Int
  | x :: _ :: rest => x :: everyOther rest
  | short => short

theorem everyOther_getElem? : ∀ (l : List Int) (i : Nat), (everyOther l)[i]? = l[2 * i]?
  | [], _ => rfl
  | [_], 0 => rfl
  | [_], _ + 1 => rfl
  | _ :: _ :: _, 0 => rfl
  | _ :: _ :: rest, i + 1 => everyOther_getElem? rest i

/-- For each index `i` of part `k`, the entries at `i`, `i + 1`, `i + 256` (a quarter cycle later) and `2 * i`. -/
def quarterLanes (parts : List (List Int)) (k : Nat) : List (Int × Int × Int × Int) :=
  (parts.getD k []).zip <| (twoParts parts k).tail.zip <|
    (parts.getD (k + 2) []).zip (everyOther (twoParts parts (2 * k)))

theorem mem_quarterLanes (hfull : ∀ p ∈ parts, p.length = 128) (hk : k + 2 < parts.length)
    (h2k : 2 * k + 1 < parts.length) (hj : j < 128) :
    (partEntry parts (128 * k + j), partEntry parts (128 * k + (j + 1)), partEntry parts (128 * (k + 2) + j),
      partEntry parts (128 * (2 * k) + 2 * j)) ∈ quarterLanes parts k := by
  refine List.mem_iff_getElem?.2 ⟨j, ?_⟩
  simp only [quarterLanes, List.getElem?_zip_eq_some, List.getElem?_tail, everyOther_getElem?]
  exact ⟨part_getElem? hfull (by omega) hj, twoParts_getElem? hfull (by omega) (by omega),
    part_getElem? hfull hk hj, twoParts_getElem? hfull h2k (by omega)⟩

/-- For each index of part `k`, the entry of the window and the sine a quarter cycle later. -/
def windowLanes (window sine : List (List Int)) (k : Nat) : List (Int × Int) :=
  (window.getD k []).zip (sine.getD (k + 2) [])

theorem mem_windowLanes {window sine : List (List Int)} (hw : ∀ p ∈ window, p.length = 128)
    (hs : ∀ p ∈ sine, p.length = 128) (hkw : k < window.length) (hks : k + 2 < sine.length) (hj : j < 128) :
    (partEntry window (128 * k + j), partEntry sine (128 * (k + 2) + j)) ∈ windowLanes window sine k := by
  refine List.mem_iff_getElem?.2 ⟨j, ?_⟩
  simp only [windowLanes, List.getElem?_zip_eq_some]
  exact ⟨part_getElem? hw hkw hj, part_getElem? hs hks hj⟩

end

/-! ### The shape of the sine and of the window -/

/-- R134: strict rise, the circle, and the sine of the doubled angle, up to the rounding of the entries. -/
abbrev QuarterShape (sine next cosine doubled : Int) : Prop :=
  sine < next
    ∧ (sine ^ 2 + cosine ^ 2 - 2 ^ 30).natAbs ≤ 2 ^ 17
    ∧ (doubled * 2 ^ 15 - 2 * sine * cosine).natAbs ≤ 2 ^ 17

theorem sine1024_quarterShape {k : Nat} (hk : k < 2) :
    ∀ lane ∈ quarterLanes sine1024 k, QuarterShape lane.1 lane.2.1 lane.2.2.1 lane.2.2.2 := by
  have hall : ∀ k < 2, ((quarterLanes sine1024 k).all
      fun lane => QuarterShape lane.1 lane.2.1 lane.2.2.1 lane.2.2.2) = true := by decide
  exact List.all_iff_forall_prop.1 (hall k hk)

theorem sineN_quarterShape {i : Nat} (hi : i < 256) : QuarterShape
    (sineN 1024 i).toInt (sineN 1024 (i + 1)).toInt (sineN 1024 (i + 256)).toInt (sineN 1024 (2 * i)).toInt := by
  obtain ⟨k, j, hk, hj, rfl⟩ : ∃ k j, k < 2 ∧ j < 128 ∧ i = 128 * k + j :=
    ⟨i / 128, i % 128, by omega, by omega, by omega⟩
  rw [toInt_sineN_default (by omega), toInt_sineN_default (by omega), toInt_sineN_default (by omega),
    toInt_sineN_default (by omega), show 128 * k + j + 256 = 128 * (k + 2) + j by omega,
    show 2 * (128 * k + j) = 128 * (2 * k) + 2 * j by omega]
  have hlength : sine1024.length = 8 := rfl
  have hlane := mem_quarterLanes (parts := sine1024) (k := k) (listed_full (by simp)) (by omega) (by omega) hj
  exact sine1024_quarterShape hk _ hlane

/-- R135: half of one minus the cosine, up to the rounding of the entries. -/
abbrev WindowShape (entry cosine : Int) : Prop := (2 * entry - (2 ^ 15 - cosine)).natAbs ≤ 2

/-- The first half of the window ends with the first entry of part 4. -/
theorem hann1024_windowShape {k : Nat} (hk : k < 5) :
    ∀ lane ∈ windowLanes hann1024 sine1024 k, WindowShape lane.1 lane.2 := by
  have hall : ∀ k < 5, ((windowLanes hann1024 sine1024 k).all fun lane => WindowShape lane.1 lane.2) = true := by
    decide
  exact List.all_iff_forall_prop.1 (hall k hk)

theorem hann_windowShape {i : Nat} (hi : i ≤ 512) :
    WindowShape (hann 1024 i).toInt (sineN 1024 (i + 256)).toInt := by
  obtain ⟨k, j, hk, hj, rfl⟩ : ∃ k j, k < 5 ∧ j < 128 ∧ i = 128 * k + j :=
    ⟨i / 128, i % 128, by omega, by omega, by omega⟩
  rw [toInt_hann_default (by omega), toInt_sineN_default (by omega),
    show 128 * k + j + 256 = 128 * (k + 2) + j by omega]
  have hsine : sine1024.length = 8 := rfl
  have hhann : hann1024.length = 8 := rfl
  have hlane := mem_windowLanes (window := hann1024) (sine := sine1024) (k := k) (listed_full (by simp))
    (listed_full (by simp)) (by omega) (by omega) hj
  simpa only using hann1024_windowShape hk _ hlane

/-- Settles O60: the sums and the shapes from the lists, the quarter cycles and the short tables entry by entry. -/
theorem tableContentsAreTheListed : Obligations.TableContentsAreTheListed := by
  unfold Obligations.TableContentsAreTheListed
  refine ⟨tableChecks_sineN, tableChecks_hann, tableChecks_sine256, ?zero, ?quarter, ?half, ?threeQuarters,
    fun i hi => (sineN_quarterShape hi).1, fun i hi => (sineN_quarterShape hi).2,
    fun i hi => hann_windowShape hi, ?sine8, ?hann8, ?sine16, ?hann16⟩
  all_goals decide

end Sys2Proof.Machine
end

section
/-! PROOFS. The parts of a tick one by one (`spec/43_dds_envelope.md` R165, R170, R175): the sample in 64-bit words,
the envelope's step by cases, and the two fields of the DAC word. -/

namespace Sys2Proof.Machine

/-! ### The sample -/

/-- R165: the top 8 bits of the phase are its quotient by 2^24. -/
theorem toNat_ushiftRight_24 (phase : Word) : (phase >>> 24).toNat = phase.toNat / 2 ^ 24 := by
  rw [BitVec.toNat_ushiftRight, Nat.shiftRight_eq_div_pow]

/-- R165 with both products, the shift and the sum as operations on words. -/
theorem ddsValue_eq (g : Cfg) (amplitude sine : Word) : ddsValue g amplitude sine
    = (product64 (product64 amplitude sine) g.outputScale).sshiftRight 15 + g.dcOffset := by
  rw [ddsValue, add32_eq, toInt32_eq_sshiftRight, product64_eq_mul, product64_eq_mul]

/-- Settles O19: the operation's result with the index and the value rewritten as operations on words. -/
theorem ddsSampleResult : Obligations.DdsSampleResult := by
  unfold Obligations.DdsSampleResult
  intro c s h y phase p1 v
  have hv : ddsValue s.cfg y.envAmp (sine256 (phase.toNat / 2 ^ 24)) = v := by
    rw [ddsValue_eq, ← toNat_ushiftRight_24]
  rw [exec_ddsSample_ready h, ← hv]
  rfl

/-! ### The envelope's step -/

section

variable {g : Cfg} {attackInc decayInc : Word} {y : Synth}

/-- R170: the last ACTIVE step enters SILENT and clears the amplitude. -/
theorem envStep_active_end (hy : y.envState = .active) (hend : (y.envElapsed + 1).toNat = g.beepDuration) :
    envStep g attackInc decayInc y = { y with envState := .silent, envElapsed := 0, envAmp := 0 } := by
  simp only [envStep, hy, hend, if_true]

theorem envStep_active (hy : y.envState = .active) (hend : (y.envElapsed + 1).toNat ≠ g.beepDuration) :
    envStep g attackInc decayInc y
      = { y with envElapsed := y.envElapsed + 1, envAmp := rampAmplitude g attackInc decayInc y } := by
  simp only [envStep, hy, hend, if_false]

/-- R170: the last SILENT step enters ACTIVE. -/
theorem envStep_silent_end (hy : y.envState = .silent) (hend : y.envElapsed + 1 = g.beepRepeatInterval) :
    envStep g attackInc decayInc y = { y with envState := .active, envElapsed := 0, envAmp := 0 } := by
  simp only [envStep, hy, hend, if_true]

theorem envStep_silent (hy : y.envState = .silent) (hend : y.envElapsed + 1 ≠ g.beepRepeatInterval) :
    envStep g attackInc decayInc y = { y with envElapsed := y.envElapsed + 1, envAmp := 0 } := by
  simp only [envStep, hy, hend, if_false]

/-- R8, R171: decay begins after the attack and the sustain. -/
theorem beepDuration_sub_decayTime (g : Cfg) :
    g.beepDuration - g.decayTime.toNat = g.attackTime.toNat + g.sustainTime.toNat :=
  Nat.add_sub_cancel _ _

theorem rampAmplitude_attack (h : y.envElapsed.toNat < g.attackTime.toNat) :
    rampAmplitude g attackInc decayInc y = y.envAmp + attackInc := by
  rw [rampAmplitude, if_pos h, add32_eq]

theorem rampAmplitude_sustain (hattack : g.attackTime.toNat ≤ y.envElapsed.toNat)
    (h : y.envElapsed.toNat ≤ g.attackTime.toNat + g.sustainTime.toNat) :
    rampAmplitude g attackInc decayInc y = y.envAmp := by
  rw [rampAmplitude, if_neg (by omega), beepDuration_sub_decayTime, if_neg (by omega)]

theorem rampAmplitude_decay (h : g.attackTime.toNat + g.sustainTime.toNat < y.envElapsed.toNat) :
    rampAmplitude g attackInc decayInc y = y.envAmp - decayInc := by
  rw [rampAmplitude, if_neg (by omega), beepDuration_sub_decayTime, if_pos h, sub32_eq]

end

/-- Settles O20: the registers are those of the envelope's step, in each case by its equation. -/
theorem envStepResult : Obligations.EnvStepResult := by
  unfold Obligations.EnvStepResult
  intro c s h
  obtain ⟨hacc, hinc, hdac⟩ := envStep_oscillator s.cfg s.attackInc s.decayInc (s.synth.get c)
  refine ⟨_, exec_envStep_ready h, hacc, hinc, hdac, fun hy hend => ?_, fun hy hend => ?_, fun hy hend => ?_,
    fun hy hend => ?_⟩
  · rw [envStep_active_end hy hend]
    exact ⟨rfl, rfl, rfl⟩
  · rw [envStep_active hy hend]
    exact ⟨hy, rfl, rampAmplitude_attack, fun _ => rampAmplitude_decay, rampAmplitude_sustain⟩
  · rw [envStep_silent_end hy hend]
    exact ⟨rfl, rfl, rfl⟩
  · rw [envStep_silent hy hend]
    exact ⟨hy, rfl, rfl⟩

/-! ### The DAC word -/

/-- R177: a tag with its low `k` bits clear and a sample of `k` bits share no bit, so their union is their sum. -/
theorem toNat_or_eq_add {n k : Nat} {tag sample : BitVec n} (htag : tag.toNat % 2 ^ k = 0)
    (hsample : sample.toNat < 2 ^ k) : (tag ||| sample).toNat = tag.toNat + sample.toNat := by
  have hquot : 2 ^ k * (tag.toNat / 2 ^ k) = tag.toNat := Nat.mul_div_cancel' (Nat.dvd_of_mod_eq_zero htag)
  rw [BitVec.toNat_or, ← hquot, Nat.two_pow_add_eq_or_of_lt hsample]

/-- Settles O21: the word is the union of tag and sample. -/
theorem dacPushWord : Obligations.DacPushWord := by
  unfold Obligations.DacPushWord
  exact fun c s h => ⟨_, exec_dacPush_ready h, rfl, toNat_or_eq_add⟩

end Sys2Proof.Machine
end

section
/-! PROOFS. The envelope over one period (`spec/43_dds_envelope.md` R171 to R173): `k` steps of the operation are `k`
steps of the core's registers, and these are followed from ACTIVE to SILENT and back. -/

namespace Sys2Proof.Machine

/-- R170: `k` steps of the envelope, one after the other, complete and iterate the step of the core's
registers. -/
theorem execAll_envSteps (c : CoreId) (k : Nat) {s : State} (h : s.readyFor (.envStep c)) :
    ∃ t, execAll (List.replicate k (.envStep c)) s = .next t
      ∧ t.synth.get c = (envStep s.cfg s.attackInc s.decayInc)^[k] (s.synth.get c) := by
  induction k generalizing s with
  | zero => exact ⟨s, rfl, rfl⟩
  | succ k ih =>
    obtain ⟨t, ht, hsynth⟩ := ih (s := (s.envStep c).answer .ok 0) h
    refine ⟨t, (execAll_cons_of_next (exec_envStep_ready h) _).trans ht, ?_⟩
    rw [hsynth, Function.iterate_succ_apply]
    exact congrArg _ (Pair.get_set_same _ _ _)

/-- R171: the amplitude after `k` ACTIVE steps from 0. -/
def beepAmplitude (g : Cfg) (attackInc decayInc : Word) (k : Nat) : Word :=
  BitVec.ofNat 32 (min k g.attackTime.toNat) * attackInc
    - BitVec.ofNat 32 (k - (g.attackTime.toNat + g.sustainTime.toNat + 1)) * decayInc

theorem toNat_add_one_of_lt {a : Word} {k : Nat} (ha : a.toNat = k) (hk : k + 1 < 2 ^ 32) : (a + 1).toNat = k + 1 := by
  rw [BitVec.toNat_add_of_lt (by rw [ha]; exact hk), ha]
  rfl

section

variable {g : Cfg} {attackInc decayInc : Word} {y : Synth} {k : Nat}

theorem ofNat_succ_mul (n : Nat) (a : Word) : BitVec.ofNat 32 (n + 1) * a = BitVec.ofNat 32 n * a + a := by
  rw [BitVec.ofNat_add, BitVec.add_mul, BitVec.one_mul]

/-- R171: the attack adds its increment. -/
theorem beepAmplitude_succ_attack (h : k < g.attackTime.toNat) :
    beepAmplitude g attackInc decayInc (k + 1) = beepAmplitude g attackInc decayInc k + attackInc := by
  rw [beepAmplitude, beepAmplitude, Nat.min_eq_left h, Nat.min_eq_left h.le, Nat.sub_eq_zero_of_le (by omega),
    Nat.sub_eq_zero_of_le (by omega), ofNat_succ_mul]
  exact add_sub_right_comm _ _ _

/-- R171: the sustain keeps the amplitude. -/
theorem beepAmplitude_succ_sustain (hattack : g.attackTime.toNat ≤ k)
    (h : k ≤ g.attackTime.toNat + g.sustainTime.toNat) :
    beepAmplitude g attackInc decayInc (k + 1) = beepAmplitude g attackInc decayInc k := by
  rw [beepAmplitude, beepAmplitude, Nat.min_eq_right hattack, Nat.min_eq_right (by omega),
    Nat.sub_eq_zero_of_le (by omega), Nat.sub_eq_zero_of_le (by omega)]

/-- R171: the decay subtracts its increment. -/
theorem beepAmplitude_succ_decay (h : g.attackTime.toNat + g.sustainTime.toNat < k) :
    beepAmplitude g attackInc decayInc (k + 1) = beepAmplitude g attackInc decayInc k - decayInc := by
  rw [beepAmplitude, beepAmplitude, Nat.min_eq_right (by omega), Nat.min_eq_right (by omega), Nat.sub_add_comm h,
    ofNat_succ_mul]
  exact sub_add_eq_sub_sub _ _ _

/-- R171: the ramp test, on a core that has made `k` steps, is one step of the closed form. -/
theorem rampAmplitude_beepAmplitude (helapsed : y.envElapsed.toNat = k)
    (hamp : y.envAmp = beepAmplitude g attackInc decayInc k) :
    rampAmplitude g attackInc decayInc y = beepAmplitude g attackInc decayInc (k + 1) := by
  subst helapsed
  rcases lt_or_ge y.envElapsed.toNat g.attackTime.toNat with hattack | hattack
  · rw [rampAmplitude_attack hattack, beepAmplitude_succ_attack hattack, hamp]
  · rcases le_or_gt y.envElapsed.toNat (g.attackTime.toNat + g.sustainTime.toNat) with hsustain | hdecay
    · rw [rampAmplitude_sustain hattack hsustain, beepAmplitude_succ_sustain hattack hsustain, hamp]
    · rw [rampAmplitude_decay hdecay, beepAmplitude_succ_decay hdecay, hamp]

/-- R172: the ACTIVE part of the period, before its last step. -/
theorem envSteps_active (hy : y.envState = .active) (h0 : y.envElapsed = 0) (hmax : g.beepDuration < 2 ^ 32)
    (hk : k < g.beepDuration) : ((envStep g attackInc decayInc)^[k] y).envState = .active
      ∧ ((envStep g attackInc decayInc)^[k] y).envElapsed.toNat = k := by
  induction k with
  | zero => exact ⟨hy, congrArg BitVec.toNat h0⟩
  | succ k ih =>
    obtain ⟨hstate, helapsed⟩ := ih (by omega)
    have hnext := toNat_add_one_of_lt helapsed (by omega)
    rw [Function.iterate_succ_apply', envStep_active hstate (by omega)]
    exact ⟨hstate, hnext⟩

/-- R171: the amplitude during the ACTIVE part that began with amplitude 0. -/
theorem envSteps_active_amp (hy : y.envState = .active) (h0 : y.envElapsed = 0) (hamp : y.envAmp = 0)
    (hmax : g.beepDuration < 2 ^ 32) (hk : k < g.beepDuration) :
    ((envStep g attackInc decayInc)^[k] y).envAmp = beepAmplitude g attackInc decayInc k := by
  induction k with
  | zero => simpa [beepAmplitude] using hamp
  | succ k ih =>
    obtain ⟨hstate, helapsed⟩ := envSteps_active (attackInc := attackInc) (decayInc := decayInc) hy h0 hmax
      (show k < g.beepDuration by omega)
    have hnext := toNat_add_one_of_lt helapsed (by omega)
    rw [Function.iterate_succ_apply', envStep_active hstate (by omega)]
    exact rampAmplitude_beepAmplitude helapsed (ih (by omega))

/-- R172: the SILENT part of the period, before its last step. -/
theorem envSteps_silent (hy : y.envState = .silent) (h0 : y.envElapsed = 0) (hamp : y.envAmp = 0)
    (hk : k < g.beepRepeatInterval.toNat) : ((envStep g attackInc decayInc)^[k] y).envState = .silent
      ∧ ((envStep g attackInc decayInc)^[k] y).envElapsed.toNat = k
      ∧ ((envStep g attackInc decayInc)^[k] y).envAmp = 0 := by
  induction k with
  | zero => exact ⟨hy, congrArg BitVec.toNat h0, hamp⟩
  | succ k ih =>
    obtain ⟨hstate, helapsed, -⟩ := ih (by omega)
    have hnext := toNat_add_one_of_lt helapsed (by omega)
    have hend : ((envStep g attackInc decayInc)^[k] y).envElapsed + 1 ≠ g.beepRepeatInterval := fun h => by
      rw [h] at hnext
      omega
    rw [Function.iterate_succ_apply', envStep_silent hstate hend]
    exact ⟨hstate, hnext, rfl⟩

/-- R172: `BEEP_DURATION` steps lead from the beginning of ACTIVE to the beginning of SILENT. -/
theorem envSteps_beepDuration (hy : y.envState = .active) (h0 : y.envElapsed = 0) (hmin : 1 ≤ g.beepDuration)
    (hmax : g.beepDuration < 2 ^ 32) : ((envStep g attackInc decayInc)^[g.beepDuration] y).envState = .silent
      ∧ ((envStep g attackInc decayInc)^[g.beepDuration] y).envElapsed = 0
      ∧ ((envStep g attackInc decayInc)^[g.beepDuration] y).envAmp = 0 := by
  obtain ⟨d, hd⟩ := Nat.exists_eq_add_one.2 hmin
  obtain ⟨hstate, helapsed⟩ := envSteps_active (attackInc := attackInc) (decayInc := decayInc) hy h0 hmax
    (show d < g.beepDuration by omega)
  have hend := toNat_add_one_of_lt helapsed (by omega)
  rw [hd, Function.iterate_succ_apply', envStep_active_end hstate (hend.trans hd.symm)]
  exact ⟨rfl, rfl, rfl⟩

/-- R172: `BEEP_REPEAT_INTERVAL` steps lead from the beginning of SILENT to the beginning of ACTIVE. -/
theorem envSteps_beepRepeatInterval (hy : y.envState = .silent) (h0 : y.envElapsed = 0) (hamp : y.envAmp = 0)
    (hmin : g.beepRepeatInterval ≠ 0) :
    ((envStep g attackInc decayInc)^[g.beepRepeatInterval.toNat] y).envState = .active
      ∧ ((envStep g attackInc decayInc)^[g.beepRepeatInterval.toNat] y).envElapsed = 0
      ∧ ((envStep g attackInc decayInc)^[g.beepRepeatInterval.toNat] y).envAmp = 0 := by
  have hpos : 0 < g.beepRepeatInterval.toNat :=
    Nat.pos_of_ne_zero fun h => hmin (BitVec.eq_of_toNat_eq h)
  obtain ⟨d, hd⟩ := Nat.exists_eq_add_one.2 hpos
  obtain ⟨hstate, helapsed, -⟩ := envSteps_silent (attackInc := attackInc) (decayInc := decayInc) hy h0 hamp
    (show d < g.beepRepeatInterval.toNat by omega)
  have hend := toNat_add_one_of_lt helapsed (by have := g.beepRepeatInterval.isLt; omega)
  rw [hd, Function.iterate_succ_apply',
    envStep_silent_end hstate (BitVec.eq_of_toNat_eq (hend.trans hd.symm))]
  exact ⟨rfl, rfl, rfl⟩

end

/-- Settles O23: the steps up to `BEEP_DURATION` are followed from the beginning of ACTIVE, the later ones from the
beginning of SILENT. -/
theorem envelopePeriod : Obligations.EnvelopePeriod := by
  unfold Obligations.EnvelopePeriod
  intro c s h hactive h0 hmin hmax hrepeat k _
  obtain ⟨t, ht, hsynth⟩ := execAll_envSteps c k h
  obtain ⟨hsilent, hsilent0, hamp0⟩ := envSteps_beepDuration (attackInc := s.attackInc) (decayInc := s.decayInc)
    hactive h0 hmin hmax
  refine ⟨t, ht, ?active, ?silent, ?again⟩ <;> rw [hsynth]
  case active => exact envSteps_active hactive h0 hmax
  case silent =>
    intro hle hlt
    rw [← Nat.sub_add_cancel hle, Function.iterate_add_apply, Nat.add_sub_cancel]
    exact envSteps_silent hsilent hsilent0 hamp0 (by omega)
  case again =>
    intro hk
    rw [hk, Nat.add_comm, Function.iterate_add_apply]
    exact envSteps_beepRepeatInterval hsilent hsilent0 hamp0 hrepeat

/-- Settles O24: the closed form follows the amplitude through the ACTIVE part. -/
theorem envelopeShape : Obligations.EnvelopeShape := by
  unfold Obligations.EnvelopeShape
  intro c s h hactive h0 hamp hmax k hk
  obtain ⟨t, ht, hsynth⟩ := execAll_envSteps c k h
  exact ⟨t, ht, hsynth ▸ envSteps_active_amp hactive h0 hamp hmax hk⟩

end Sys2Proof.Machine
end

section
/-! PROOFS. Ticks of the two cores (`spec/43_dds_envelope.md` R178, R179). -/

namespace Sys2Proof.Machine

/-- R178: the block after a tick requested by `TIMER[c]` with `con_ready` at this level. -/
def State.ticked (s : State) (c : CoreId) (conReady : Bool) : State :=
  (((s.open (.timer c) conReady).ddsSample c).envStep c).dacPush c

/-- The DAC word of the next tick of core `c`. -/
def State.tickWord (s : State) (c : CoreId) : BitVec 16 :=
  dacWord s.cfg c (tickSynth s.cfg s.attackInc s.decayInc (s.synth.get c))

section

variable {s : State} (c : CoreId) (r r' : Bool)

theorem ticked_eq : s.ticked c r
    = { s with
        synth := s.synth.set c (tickSynth s.cfg s.attackInc s.decayInc (s.synth.get c))
        agent := .timer c
        conReady := r
        emitted := .dac (s.tickWord c) :: s.emitted
        reply := some ⟨(s.tickWord c).setWidth 32, .ok⟩ } :=
  tick_eq (s.open (.timer c) r) c

/-- R178, R273: in a RUNNING block the request of a tick is served by the tick. -/
theorem handle_ddsTick (hr : s.runState = .running) :
    s.handle (.request (.timer c) (encode (.ddsTick c)) r) = .next (s.ticked c r) :=
  (serve_of_decode _ _ (decodeEncodeAgree (.ddsTick c))).trans (exec_ddsTick_ready ⟨hr, rfl⟩)

theorem ticked_runState : (s.ticked c r).runState = s.runState := by rw [ticked_eq]

/-- R179: a tick does not change the word of the other core's next tick. -/
theorem tickWord_ticked_other : (s.ticked c r).tickWord c.other = s.tickWord c.other := by
  simp only [State.tickWord, ticked_eq, Pair.get_other_set]

theorem ticked_emitted : (s.ticked c r).emitted = .dac (s.tickWord c) :: s.emitted :=
  tick_emitted (s.open (.timer c) r) c

theorem ticked_ticked_emitted : ((s.ticked c r).ticked c.other r').emitted
    = .dac (s.tickWord c.other) :: .dac (s.tickWord c) :: s.emitted := by
  rw [ticked_emitted, tickWord_ticked_other, ticked_emitted]

/-- R179: ticks of two cores, in either order, leave the same but for the ports. -/
theorem ticked_ticked_comm : { (s.ticked c r).ticked c.other r' with
      agent := ((s.ticked c.other r').ticked c r).agent
      conReady := ((s.ticked c.other r').ticked c r).conReady
      reply := ((s.ticked c.other r').ticked c r).reply
      emitted := ((s.ticked c.other r').ticked c r).emitted } = (s.ticked c.other r').ticked c r := by
  simp only [ticked_eq, Pair.get_other_set, Pair.get_set_other, Pair.set_comm]

end

/-- Settles O25: each request is served by its tick, and the ticks of core 0 and of the other core commute. -/
theorem ticksCommute : Obligations.TicksCommute := by
  unfold Obligations.TicksCommute
  intro s r0 r1 hr
  exact ⟨s.ticked .c0 r0, (s.ticked .c0 r0).ticked .c1 r1, s.ticked .c1 r1, (s.ticked .c1 r1).ticked .c0 r0,
    s.tickWord .c0, s.tickWord .c1, handle_ddsTick .c0 r0 hr,
    handle_ddsTick .c1 r1 ((ticked_runState .c0 r0).trans hr), handle_ddsTick .c1 r1 hr,
    handle_ddsTick .c0 r0 ((ticked_runState .c1 r1).trans hr), ticked_ticked_comm .c0 r0 r1,
    ticked_ticked_emitted .c0 r0 r1, ticked_ticked_emitted .c1 r1 r0⟩

end Sys2Proof.Machine
end

section
/-! PROOFS. Unit 6, the capture path (`spec/44_capture.md` R191 to R198): where a sample goes, the hand-over of an
epoch, what `WIN_LOAD` leaves in every element, and the consumer's hold on core 0. -/

namespace Sys2Proof.Machine

/-! ### `ACQ_PUSH` -/

section

variable {s : State}

/-- R191: while acquisition is not armed the sample is dropped. -/
theorem exec_acqPush_dropped {opa : Word} (h : s.readyFor (.acqPush opa)) (harmed : s.cap.armed = false) :
    exec (.acqPush opa) s = .next (s.answer .ok 0) := by
  show execAcqPush opa s = _
  rw [execAcqPush, fromIssuer_ready s .acq _ h.1 h.2, harmed]

/-- R62, R191: while acquisition is armed the sample is stored, if its element exists. -/
theorem exec_acqPush_armed {opa : Word} (h : s.readyFor (.acqPush opa)) (harmed : s.cap.armed = true) :
    exec (.acqPush opa) s
      = if s.cap.wrPtr.toNat < s.cfg.n then .next ((s.storeSample opa).answer .ok 0)
        else .fault .indexOutOfRange := by
  show execAcqPush opa s = _
  rw [execAcqPush, fromIssuer_ready s .acq _ h.1 h.2, harmed]

/-- R191: a sample is the low bits of the operand, also where the width asked for exceeds a word. -/
theorem toNat_sampleOperand (bits : Nat) (opa : Word) :
    (sampleOperand bits opa).toNat = opa.toNat % 2 ^ bits := by
  rw [sampleOperand, BitVec.toNat_ofNat]
  exact Nat.mod_eq_of_lt (Nat.lt_of_le_of_lt (Nat.mod_le _ _) opa.isLt)

theorem read_storeSample (s : State) (opa : Word) (sp : Space) (k : Nat) : (s.storeSample opa).mem.read sp k
    = if sp = .buf s.cap.fillSel ∧ k = s.cap.wrPtr.toNat then some (sampleOperand s.cfg.sampleBits opa)
      else s.mem.read sp k := by
  simp only [State.storeSample, Memory.read_write, Prod.mk.injEq]

/-- R36: the write index does not wrap inside a buffer. -/
theorem toNat_wrPtr_add_one (hlt : s.cap.wrPtr.toNat < s.cfg.n) (hn : s.cfg.n ≤ 65536) :
    (s.cap.wrPtr + 1).toNat = s.cap.wrPtr.toNat + 1 :=
  BitVec.toNat_add_of_lt (show s.cap.wrPtr.toNat + 1 < 2 ^ 17 by omega)

/-- R191: before the last sample of an epoch only the pointer moves. -/
theorem storeSample_cap_of_ne (opa : Word) (harmed : s.cap.armed = true)
    (hmore : (s.cap.wrPtr + 1).toNat ≠ s.cfg.n) :
    (s.storeSample opa).cap = { s.cap with wrPtr := s.cap.wrPtr + 1 } := by
  simp only [State.storeSample, hmore, harmed, decide_false, Bool.not_false, Bool.false_or]

/-- R191: the last sample ends the epoch. -/
theorem storeSample_cap_of_eq (opa : Word) (hlast : (s.cap.wrPtr + 1).toNat = s.cfg.n) :
    (s.storeSample opa).cap = { s.cap with wrPtr := s.cap.wrPtr + 1, armed := false, epochDone := true } := by
  simp only [State.storeSample, hlast, decide_true, Bool.not_true, Bool.true_or]

theorem storeSample_eq (s : State) (opa : Word) :
    s.storeSample opa = { s with mem := (s.storeSample opa).mem, cap := (s.storeSample opa).cap } := rfl

end

/-- Settles O27: dropped, stored with the pointer's successor below or at `N`, or no element to store to. -/
theorem acqPushResult : Obligations.AcqPushResult := by
  unfold Obligations.AcqPushResult
  intro opa s h
  refine ⟨exec_acqPush_dropped h, fun harmed hlt hn => ?_, fun harmed hge => ?_⟩
  · have hptr := toNat_wrPtr_add_one hlt hn
    have hexec := (exec_acqPush_armed h harmed).trans (if_pos hlt)
    rw [storeSample_eq] at hexec
    refine ⟨(s.storeSample opa).mem, ⟨_, toNat_sampleOperand _ _, read_storeSample s opa⟩, fun hmore => ?_,
      fun hlast => ?_⟩
    · rw [hexec, storeSample_cap_of_ne opa harmed (by omega)]
      rfl
    · rw [hexec, storeSample_cap_of_eq opa (by omega)]
      rfl
  · exact (exec_acqPush_armed h harmed).trans (if_neg (Nat.not_lt.2 hge))

/-! ### `CAP_WAIT` and `CAP_REARM` -/

/-- Settles O28: the operation's result, the answer being chosen by `EPOCH_DONE`. -/
theorem capWaitResult : Obligations.CapWaitResult := by
  unfold Obligations.CapWaitResult
  intro s h
  refine ⟨fun hdone => ?_, fun hdone => ?_⟩
  all_goals
    rw [exec_capWait_ready h, hdone]
    rfl

theorem exec_capRearm_notReady {s : State} (h : s.readyFor .capRearm) (hdone : s.cap.epochDone = false) :
    exec .capRearm s = .next ((s.setOwner .c0 .ct).answer .notReady 0) := by
  show execCapRearm s = _
  rw [execCapRearm, fromIssuer_ready s .ct _ h.1 h.2, hdone]

/-- Settles O29: both branches of the operation. -/
theorem capRearmResult : Obligations.CapRearmResult := by
  unfold Obligations.CapRearmResult
  exact fun s h => ⟨exec_capRearm_done h, exec_capRearm_notReady h⟩

/-! ### `WIN_LOAD` -/

/-- R196: element `i` of `RE` and `IM` is the windowed sample `i` of the buffer `b`. -/
def Memory.Windowed (n : Nat) (b : BufSel) (i : Nat) (m : Memory) : Prop :=
  ∃ x, m.read (.buf b) i = some x ∧ m.read .re i = some (mul (fromInt x) (hann n i)) ∧ m.read .im i = some 0

section

variable {n : Nat} {b : BufSel} {m m' : Memory} {i : Nat}

/-- What an iteration of `WIN_LOAD` leaves in `RE` and `IM`. -/
theorem read_windowElement_re {x : Word} (hx : m.read (.buf b) i = some x) (h : windowElement n b m i = some m')
    (k : Nat) : m'.read .re k = if k = i then some (mul (fromInt x) (hann n i)) else m.read .re k := by
  obtain ⟨y, hy, rfl⟩ := windowElement_eq n b m m' i h
  obtain rfl : y = x := Option.some.inj (hy.symm.trans hx)
  simp [Memory.read_write]

theorem read_windowElement_im (h : windowElement n b m i = some m') (k : Nat) :
    m'.read .im k = if k = i then some 0 else m.read .im k := by
  obtain ⟨y, -, rfl⟩ := windowElement_eq n b m m' i h
  simp [Memory.read_write]

theorem windowElement_source (h : windowElement n b m i = some m') : ∃ x, m.read (.buf b) i = some x :=
  (windowElement_eq n b m m' i h).imp fun _ hx => hx.1

theorem windowElement_windowed (h : windowElement n b m i = some m') : m'.Windowed n b i := by
  obtain ⟨x, hx⟩ := windowElement_source h
  refine ⟨x, ?_, ?_, ?_⟩
  · rw [Memory.read_buf_of_buffers (windowElement_buffers h), hx]
  · rw [read_windowElement_re hx h, if_pos rfl]
  · rw [read_windowElement_im h, if_pos rfl]

/-- An iteration undoes no other. -/
theorem windowElement_keeps_windowed (h : windowElement n b m i = some m') {k : Nat} (hk : m.Windowed n b k) :
    m'.Windowed n b k := by
  by_cases hki : k = i
  · exact hki ▸ windowElement_windowed h
  · obtain ⟨x, hx⟩ := windowElement_source h
    obtain ⟨y, hy, hre, him⟩ := hk
    refine ⟨y, ?_, ?_, ?_⟩
    · rw [Memory.read_buf_of_buffers (windowElement_buffers h), hy]
    · rw [read_windowElement_re hx h, if_neg hki, hre]
    · rw [read_windowElement_im h, if_neg hki, him]

theorem windowLoad_windowed (h : windowLoad n b m = some m') (hi : i < n) : m'.Windowed n b i :=
  foldlM_establishes (fun i m => m.Windowed n b i) (fun _ _ _ _ h1 => windowElement_windowed h1)
    (fun _ _ _ _ h1 _ hk => windowElement_keeps_windowed h1 hk) h i (List.mem_range.2 hi)

/-- R62: nothing is written at `N` or above. -/
theorem windowLoad_above {k : Nat} (h : windowLoad n b m = some m') (hk : n ≤ k) :
    m'.read .re k = m.read .re k ∧ m'.read .im k = m.read .im k := by
  refine Prod.mk.inj (foldlM_keeps_view (fun m => (m.read .re k, m.read .im k)) (fun m1 m2 i hi h1 => ?_) h)
  obtain ⟨x, hx⟩ := windowElement_source h1
  have hne : k ≠ i := Nat.ne_of_gt (Nat.lt_of_lt_of_le (List.mem_range.1 hi) hk)
  rw [read_windowElement_re hx h1, read_windowElement_im h1, if_neg hne, if_neg hne]

/-- R151: no entry of the listed window exceeds one in magnitude. -/
theorem natAbs_partEntry_hann_le (i : Nat) : (partEntry hann1024 i).natAbs ≤ 2 ^ 15 :=
  forall_getD (P := fun x : Int => x.natAbs ≤ 2 ^ 15) (by decide)
    (forall_getD (P := fun p : List Int => ∀ x ∈ p, x.natAbs ≤ 2 ^ 15) (by simp) (listed_natAbs_le (by simp)) _) _

/-- R135: nor does an entry of a table taken from that list. -/
theorem natAbs_hann_le (hn : n ≤ 1024) (i : Nat) : (hann n i).toInt.natAbs ≤ 2 ^ 15 := by
  rw [hann, if_pos hn, toInt_wrap32_partEntry (by simp)]
  exact natAbs_partEntry_hann_le _

end

/-- R111: an integer of 16 bits is converted exactly. -/
theorem toInt_fromInt_of_lt {x : Word} (hx : x.toNat < 2 ^ 16) : (fromInt x).toInt = x.toNat * 2 ^ 15 := by
  have hpos : x.toInt = x.toNat := BitVec.toInt_eq_toNat_of_lt (by omega)
  rw [fromInt, wrap32_toInt, hpos]
  exact Int.bmod_eq_of_le (by omega) (by omega)

/-- R115, R196: a sample of 16 bits times an entry of magnitude at most one is exact. -/
theorem toInt_mul_fromInt {x w : Word} (hx : x.toNat < 2 ^ 16) (hw : w.toInt.natAbs ≤ 2 ^ 15) :
    (mul (fromInt x) w).toInt = x.toNat * w.toInt := by
  have hfits : |(x.toNat : Int) * w.toInt| ≤ (2 ^ 16 - 1) * 2 ^ 15 := by
    rw [abs_mul]
    exact mul_le_mul (abs_le.2 ⟨by omega, by omega⟩) (abs_le.2 ⟨by omega, by omega⟩) (abs_nonneg _) (by norm_num)
  obtain ⟨hlo, hhi⟩ := abs_le.1 hfits
  calc (mul (fromInt x) w).toInt
      = (asr ((x.toNat : Int) * w.toInt * 2 ^ 15) 15).bmod (2 ^ 32) := by
        rw [mul, wrap32_toInt, toInt_fromInt_of_lt hx, mul_right_comm]
    _ = ((x.toNat : Int) * w.toInt).bmod (2 ^ 32) := by rw [asr, Int.mul_ediv_cancel _ (by norm_num)]
    _ = x.toNat * w.toInt := Int.bmod_eq_of_le (by omega) (by omega)

/-- Settles O30: the loop completes on a full buffer, windows every element below `N` and no other, and the product
of a short sample with a listed entry does not overflow. -/
theorem winLoadResult : Obligations.WinLoadResult := by
  unfold Obligations.WinLoadResult
  intro s h hfull
  obtain ⟨m, hm⟩ := Option.isSome_iff_exists.1 ((windowLoad_isSome_iff _ _ _).2 hfull)
  refine ⟨m, by rw [exec_winLoad_ready h, hm]; rfl, Memory.read_buf_of_buffers (windowLoad_buffers hm),
    fun k hk => windowLoad_above hm hk, fun i hi => ?_⟩
  obtain ⟨x, hx, hre, him⟩ := windowLoad_windowed hm hi
  refine ⟨x, _, ?_, hre, him, ?_, fun hn hshort => toInt_mul_fromInt hshort (natAbs_hann_le hn i)⟩
  · rw [← Memory.read_buf_of_buffers (windowLoad_buffers hm), hx]
  · rw [product64_eq_mul, fromInt_eq_shiftLeft]

/-! ### The tasks -/

/-- Settles O6: the words of the eight positions, for each core and for the consumer. -/
theorem taskPrograms : Obligations.TaskPrograms := by
  unfold Obligations.TaskPrograms
  refine ⟨fun c => ?_, by decide⟩
  cases c with
  | c0 => decide
  | c1 => decide

section

variable {s : State}

/-- R266, log 13: a task that is not enabled makes no step. -/
theorem taskStep_not_enabled {t : Task} (henabled : ¬ s.enabled t = true) (conReady : Bool) :
    s.taskStep t conReady = .next { s with reply := none } := if_neg henabled

/-- R47, R266: core 0 in the consumer's hands is closed to its heartbeat. -/
theorem not_enabled_hb_of_ct (howner : s.coreOwner.at0 = .ct) : ¬ s.enabled (.hb .c0) = true := by
  rw [State.enabled_iff]
  rintro ⟨-, hfree | hself⟩
  · cases howner.symm.trans hfree
  · cases howner.symm.trans hself

end

/-- Settles O58: by the invariant the consumer owns core 0 then, so the heartbeat is not enabled. -/
theorem consumerHoldsCore : Obligations.ConsumerHoldsCore := by
  unfold Obligations.ConsumerHoldsCore
  intro s conReady rest h hpc hin
  exact (step_of_inbox_cons hin).trans
    (taskStep_not_enabled (s := { s with inbox := rest }) (not_enabled_hb_of_ct (h.owner0 hpc)) conReady)

end Sys2Proof.Machine
end

section
/-! PROOFS. Unit 7, bit reversal (`spec/45_fft.md` R211, R212): the reversed bits of an index, and the loop of
exchanges as a permutation of `RE` and `IM`. -/

namespace Sys2Proof.Machine

/-! ### The index -/

/-- R211: each step of the reversal takes the lowest bit of the index to the top. -/
theorem testBit_bitrev_succ (bits m k : Nat) (hk : k < bits + 1) : (bitrev (bits + 1) m).testBit k
    = if k < bits then (bitrev bits (m / 2)).testBit k else m.testBit 0 := by
  have hunfold : bitrev (bits + 1) m = 2 ^ bits * (m % 2) + bitrev bits (m / 2) := by rw [bitrev, Nat.mul_comm]
  rw [hunfold, Nat.testBit_two_pow_mul_add (m % 2) (bitrev_lt bits (m / 2)) k]
  split
  · rfl
  · obtain rfl : k = bits := by omega
    simp

theorem testBit_bitrev (bits m k : Nat) (hk : k < bits) :
    (bitrev bits m).testBit k = m.testBit (bits - 1 - k) := by
  induction bits generalizing m with
  | zero => omega
  | succ bits ih =>
    rw [testBit_bitrev_succ bits m k hk]
    split
    · next hlow => rw [ih _ hlow, Nat.testBit_div_two, show bits - 1 - k + 1 = bits + 1 - 1 - k by omega]
    · next hhigh => rw [show bits + 1 - 1 - k = 0 by omega]

/-- Settles O32: the bits by induction on the width; the tables by evaluation. -/
theorem bitrevReversesBits : Obligations.BitrevReversesBits := by
  unfold Obligations.BitrevReversesBits
  exact ⟨fun bits m k hm hk => ⟨testBit_bitrev bits m k hk, bitrev_lt bits m, bitrev_bitrev bits m hm⟩,
    by decide, by decide⟩

/-- R211: for a power of two of points the reversal of an index of the arrays is its own inverse. -/
theorem bitrev_log2_bitrev {n k : Nat} (hn : isPow2 n = true) (hk : k < n) :
    bitrev n.log2 (bitrev n.log2 k) = k :=
  bitrev_bitrev n.log2 k (isPow2_eq hn ▸ hk)

/-! ### Loops with one iteration that matters -/

/-- If one iteration alone changes a view of the data, the loop changes the view as this iteration does. -/
theorem foldlM_once {α β γ : Type} {f : β → α → Option β} {l : List α} (V : β → γ) (R : γ → γ → Prop) {a : α}
    (ha : a ∈ l) (hl : l.Nodup) (hkeep : ∀ b b', ∀ x ∈ l, x ≠ a → f b x = some b' → V b' = V b)
    (hset : ∀ b b', f b a = some b' → R (V b) (V b')) {b b' : β} (h : l.foldlM f b = some b') :
    R (V b) (V b') := by
  obtain ⟨before, after, rfl⟩ := List.append_of_mem ha
  obtain ⟨-, hafter, hdisjoint⟩ := List.nodup_append'.1 hl
  have hbefore_ne : ∀ x ∈ before, x ≠ a := fun x hx e => hdisjoint hx (e ▸ List.mem_cons_self)
  have hafter_ne : ∀ x ∈ after, x ≠ a := fun x hx e => (List.nodup_cons.1 hafter).1 (e ▸ hx)
  simp only [List.foldlM_append, List.foldlM_cons, Option.bind_eq_bind, Option.bind_eq_some_iff] at h
  obtain ⟨b1, h1, b2, h2, h3⟩ := h
  have hV1 : V b1 = V b := foldlM_keeps_view V
    (fun c c' x hx => hkeep c c' x (List.mem_append_left _ hx) (hbefore_ne x hx)) h1
  have hV2 : V b' = V b2 := foldlM_keeps_view V
    (fun c c' x hx => hkeep c c' x (List.mem_append_right _ (List.mem_cons_of_mem _ hx)) (hafter_ne x hx)) h3
  rw [← hV1, hV2]
  exact hset b1 b2 h2

/-! ### `FFT_BITREV` -/

/-- Element `k` of `RE` and of `IM`. -/
def Memory.point (m : Memory) (k : Nat) : Option Word × Option Word := (m.read .re k, m.read .im k)

theorem read_swapElements {sp : Space} {m m' : Memory} {i j : Nat} (h : swapElements sp m i j = some m') (k : Nat) :
    m'.read sp k = m.read sp (Equiv.swap i j k) := by
  obtain ⟨x, y, hx, hy, rfl⟩ := swapElements_eq sp m m' i j h
  simp only [Memory.read_write, Prod.mk.injEq, true_and]
  by_cases hj : k = j
  · rw [if_pos hj, hj, Equiv.swap_apply_right, hx]
  · by_cases hi : k = i
    · rw [if_neg hj, if_pos hi, hi, Equiv.swap_apply_left, hy]
    · rw [if_neg hj, if_neg hi, Equiv.swap_apply_of_ne_of_ne hi hj]

theorem read_swapElements_of_ne {sp sq : Space} (hne : sq ≠ sp) {m m' : Memory} {i j : Nat}
    (h : swapElements sp m i j = some m') (k : Nat) : m'.read sq k = m.read sq k := by
  obtain ⟨x, y, -, -, rfl⟩ := swapElements_eq sp m m' i j h
  simp [Memory.read_write, hne]

section

variable {bits n : Nat} {m m' : Memory}

/-- R212: an iteration exchanges the elements of `a` and its reversal if `a` is the smaller one. -/
theorem point_bitrevElement {a : Nat} (h : bitrevElement bits m a = some m') :
    (bitrev bits a ≤ a ∧ m' = m)
      ∨ (a < bitrev bits a ∧ ∀ k, m'.point k = m.point (Equiv.swap a (bitrev bits a) k)) := by
  obtain hidle | ⟨hlt, m1, hre, him⟩ := bitrevElement_eq bits m m' a h
  · exact .inl hidle
  · refine .inr ⟨hlt, fun k => Prod.ext ?_ ?_⟩
    · exact (read_swapElements_of_ne (by decide) him k).trans (read_swapElements hre k)
    · exact (read_swapElements him k).trans (read_swapElements_of_ne (by decide) hre _)

/-- An iteration leaves an element alone that it does not exchange. -/
theorem point_bitrevElement_of_ne {a k : Nat} (h : bitrevElement bits m a = some m')
    (hk : a < bitrev bits a → k ≠ a ∧ k ≠ bitrev bits a) : m'.point k = m.point k := by
  obtain ⟨-, rfl⟩ | ⟨hlt, hswap⟩ := point_bitrevElement h
  · rfl
  · obtain ⟨ha, hra⟩ := hk hlt
    rw [hswap, Equiv.swap_apply_of_ne_of_ne ha hra]

/-- The iterations of the loop of R212 stay inside the arrays. -/
theorem lt_of_mem_bitrevLoop {a : Nat} (ha : a ∈ List.range' 1 (n - 2)) : a < n := by
  obtain ⟨hpos, hlt⟩ := List.mem_range'_1.1 ha
  omega

/-- R62: nothing is moved at `N` or above. -/
theorem point_bitrevAll_above (h : bitrevAll n m = some m') {k : Nat} (hk : n ≤ k) : m'.point k = m.point k := by
  refine foldlM_keeps_view (fun m => m.point k) (fun m1 m2 a ha h1 => ?_) h
  have han : a < n := lt_of_mem_bitrevLoop ha
  have hran : bitrev n.log2 a < n := bitrev_log2_lt (by omega) a
  exact point_bitrevElement_of_ne h1 fun _ => ⟨by omega, by omega⟩

/-- R212: an element that is its own reversal stays. -/
theorem point_bitrevAll_fixed (hn : isPow2 n = true) (h : bitrevAll n m = some m') {k : Nat}
    (hfix : bitrev n.log2 k = k) : m'.point k = m.point k := by
  refine foldlM_keeps_view (fun m => m.point k) (fun m1 m2 a ha h1 => ?_) h
  have hinv : bitrev n.log2 (bitrev n.log2 a) = a := bitrev_log2_bitrev hn (lt_of_mem_bitrevLoop ha)
  refine point_bitrevElement_of_ne h1 fun hlt => ⟨?_, ?_⟩
  · rintro rfl
    omega
  · rintro rfl
    omega

/-- R212: two elements that are each other's reversal are exchanged once, at the smaller index. -/
theorem point_bitrevAll_exchanged (hn : isPow2 n = true) (h : bitrevAll n m = some m') {k : Nat} (hk : k < n)
    (hlt : k < bitrev n.log2 k) :
    m'.point k = m.point (bitrev n.log2 k) ∧ m'.point (bitrev n.log2 k) = m.point k := by
  have hrn : bitrev n.log2 k < n := bitrev_log2_lt (by omega) k
  have hpos : k ≠ 0 := by
    rintro rfl
    rw [bitrev_zero] at hlt
    omega
  have hmem : k ∈ List.range' 1 (n - 2) := List.mem_range'_1.2 ⟨by omega, by omega⟩
  refine foldlM_once (fun m => (m.point k, m.point (bitrev n.log2 k)))
    (fun old new => new.1 = old.2 ∧ new.2 = old.1) hmem
    (List.nodup_range' (h := by decide)) (fun m1 m2 a ha hne h1 => ?_) (fun m1 m2 h1 => ?_) h
  · have hinv : bitrev n.log2 (bitrev n.log2 a) = a := bitrev_log2_bitrev hn (lt_of_mem_bitrevLoop ha)
    have hinv' : bitrev n.log2 (bitrev n.log2 k) = k := bitrev_log2_bitrev hn hk
    refine Prod.ext (point_bitrevElement_of_ne h1 fun ha => ⟨hne.symm, ?_⟩)
      (point_bitrevElement_of_ne h1 fun ha => ⟨?_, ?_⟩)
    · rintro rfl
      omega
    · rintro rfl
      omega
    · intro he
      exact hne (hinv.symm.trans ((congrArg _ he.symm).trans hinv'))
  · obtain ⟨hge, -⟩ | ⟨-, hswap⟩ := point_bitrevElement h1
    · omega
    · simp only [hswap, Equiv.swap_apply_left, Equiv.swap_apply_right, and_self]

/-- R212: after the loop every index holds the element of the reversed index. -/
theorem point_bitrevAll (hn : isPow2 n = true) (h : bitrevAll n m = some m') {k : Nat} (hk : k < n) :
    m'.point k = m.point (bitrev n.log2 k) := by
  rcases Nat.lt_trichotomy k (bitrev n.log2 k) with hlt | heq | hgt
  · exact (point_bitrevAll_exchanged hn h hk hlt).1
  · rw [← heq, point_bitrevAll_fixed hn h heq.symm]
  · have hinv : bitrev n.log2 (bitrev n.log2 k) = k := bitrev_log2_bitrev hn hk
    have hpair := (point_bitrevAll_exchanged hn h (bitrev_log2_lt (by omega) k) (hinv.symm ▸ hgt)).2
    rwa [hinv] at hpair

end

/-- Settles O33: on whole arrays the loop completes, and it permutes the elements by bit reversal. -/
theorem fftBitrevPermutes : Obligations.FftBitrevPermutes := by
  unfold Obligations.FftBitrevPermutes
  intro s h hn hre him
  obtain ⟨m, hm⟩ := Option.isSome_iff_exists.1 (bitrevAll_isSome_of_filled hre him)
  refine ⟨m, ?_, Memory.read_buf_of_buffers (bitrevAll_buffers hm),
    fun k hk => Prod.mk.inj (point_bitrevAll_above hm hk), fun k hk => Prod.mk.inj (point_bitrevAll hn hm hk)⟩
  rw [exec_fftBitrev_ready h, hm]
  rfl

end Sys2Proof.Machine
end

section
/-! PROOFS. Unit 7, one pass (`spec/45_fft.md` R213 to R215): each pair of elements takes its butterfly once, and no
other butterfly of the pass touches it. -/

namespace Sys2Proof.Machine

/-! ### The butterfly in word operations -/

/-- R118: halving is an arithmetic shift right. -/
theorem half_eq_sshiftRight (v : Word) : half v = v.sshiftRight 1 := by
  rw [BitVec.sshiftRight, Int.shiftRight_eq_div_pow]
  rfl

theorem twiddleRe_eq (n l k : Nat) : twiddleRe n l k = (sineN n (k * (n / (2 * l)) + n / 4)).sshiftRight 1 :=
  half_eq_sshiftRight _

theorem twiddleIm_eq (n l k : Nat) : twiddleIm n l k = (-sineN n (k * (n / (2 * l)))).sshiftRight 1 := by
  rw [twiddleIm, half_eq_sshiftRight, neg32_eq]
  rfl

/-- The elements `i` and `j` of `RE` and `IM`. -/
def Memory.pair (m : Memory) (i j : Nat) : (Option Word × Option Word) × Option Word × Option Word :=
  (m.point i, m.point j)

/-- R214: `new` is the butterfly of the pair of elements `old` with the twiddle `(wr, wi)`. -/
def IsButterfly (wr wi : Word) (old new : (Option Word × Option Word) × Option Word × Option Word) : Prop :=
  ∀ ri ii rj ij : Word, old = ((some ri, some ii), some rj, some ij) →
    let tr := product64 wr rj - product64 wi ij
    let ti := product64 wr ij + product64 wi rj
    new = ((some (ri.sshiftRight 1 + tr), some (ii.sshiftRight 1 + ti)),
      some (ri.sshiftRight 1 - tr), some (ii.sshiftRight 1 - ti))

section

variable {wr wi : Word} {m m' : Memory} {i j : Nat}

/-- R214: what a butterfly leaves in its two elements. -/
theorem butterfly_isButterfly (hij : i ≠ j) (h : butterfly wr wi m i j = some m') :
    IsButterfly wr wi (m.pair i j) (m'.pair i j) := by
  intro ri ii rj ij hold
  obtain ⟨xi, yi, xj, yj, hri, hii, hrj, hij', rfl⟩ := butterfly_eq wr wi m m' i j h
  simp only [Memory.pair, Memory.point, hri, hii, hrj, hij', Prod.mk.injEq, Option.some.injEq] at hold
  obtain ⟨⟨rfl, rfl⟩, rfl, rfl⟩ := hold
  simp [Memory.pair, Memory.point, Memory.read_write, hij.symm, half_eq_sshiftRight, sub32_eq, add32_eq,
    product64_eq_mul]

theorem point_butterfly_of_ne (h : butterfly wr wi m i j = some m') {k : Nat} (hi : k ≠ i) (hj : k ≠ j) :
    m'.point k = m.point k := by
  obtain ⟨xi, yi, xj, yj, -, -, -, -, rfl⟩ := butterfly_eq wr wi m m' i j h
  simp [Memory.point, Memory.read_write, hi, hj]

end

/-! ### The indices of a pass -/

section

variable {n l k : Nat}

/-- R213: both indices of a butterfly of group `k` are `k` modulo `L`. -/
theorem passIndex_mod (hk : k < l) (b : Nat) : (k + b * (2 * l)) % l = k := by
  rw [show b * (2 * l) = l * (2 * b) by ring, Nat.add_mul_mod_self_left, Nat.mod_eq_of_lt hk]

theorem passIndex_add_mod (hk : k < l) (b : Nat) : (k + b * (2 * l) + l) % l = k := by
  rw [Nat.add_mod_right, passIndex_mod hk]

/-- R214: both indices of butterfly `b` of a group lie in the block `b` of `2L` elements. -/
theorem passIndex_div (hk : k < 2 * l) (b : Nat) : (k + b * (2 * l)) / (2 * l) = b := by
  rw [Nat.add_mul_div_right _ _ (by omega), Nat.div_eq_of_lt hk, Nat.zero_add]

theorem passIndex_add_div (hk : k < l) (b : Nat) : (k + b * (2 * l) + l) / (2 * l) = b := by
  rw [Nat.add_right_comm]
  exact passIndex_div (by omega) b

/-- R214: an index with bit `log2 L` clear is the lower index of a butterfly. -/
theorem eq_passIndex {i : Nat} (hi : i / l % 2 = 0) : i = i % l + i / (2 * l) * (2 * l) := by
  have hdiv : i / (2 * l) = i / l / 2 := by rw [Nat.mul_comm, Nat.div_div_eq_div_mul]
  have heven : i / l = 2 * (i / l / 2) := by omega
  calc i = i % l + l * (i / l) := (Nat.mod_add_div i l).symm
    _ = i % l + l * (2 * (i / l / 2)) := by rw [← heven]
    _ = i % l + i / (2 * l) * (2 * l) := by rw [hdiv]; ring

end

/-! ### The pass -/

section

variable {n l : Nat} {m m' : Memory}

/-- R62: nothing is written at `N` or above. -/
theorem point_passGroup_above {g k : Nat} (hg : g < l) (h : passGroup n l m g = some m') (hk : n ≤ k) :
    m'.point k = m.point k := by
  refine foldlM_keeps_view (fun m => m.point k) (fun m1 m2 b hb h1 => ?_) h
  have hlt := butterfly_index_lt n l g b hg (List.mem_range.1 hb)
  exact point_butterfly_of_ne h1 (by omega) (by omega)

theorem point_fftPass_above {k : Nat} (h : fftPass n l m = some m') (hk : n ≤ k) : m'.point k = m.point k :=
  foldlM_keeps_view (fun m => m.point k)
    (fun _ _ _ hg h1 => point_passGroup_above (List.mem_range.1 hg) h1 hk) h

/-- R213: a group leaves the elements of the other groups alone. -/
theorem point_passGroup_of_ne {g k : Nat} (hg : g < l) (h : passGroup n l m g = some m') (hk : k % l ≠ g) :
    m'.point k = m.point k := by
  refine foldlM_keeps_view (fun m => m.point k) (fun m1 m2 b _ h1 => point_butterfly_of_ne h1 ?_ ?_) h
  · rintro rfl
    exact hk (passIndex_mod hg b)
  · rintro rfl
    exact hk (passIndex_add_mod hg b)

/-- R214: a group leaves in the elements of its butterfly `b` the butterfly of their old values. -/
theorem passGroup_isButterfly {g b : Nat} (hg : g < l) (hb : b < n / (2 * l)) (h : passGroup n l m g = some m') :
    IsButterfly (twiddleRe n l g) (twiddleIm n l g) (m.pair (g + b * (2 * l)) (g + b * (2 * l) + l))
      (m'.pair (g + b * (2 * l)) (g + b * (2 * l) + l)) := by
  have hother : ∀ m1 m2 c k, c ≠ b → k / (2 * l) = b → butterfly (twiddleRe n l g) (twiddleIm n l g) m1
      (g + c * (2 * l)) (g + c * (2 * l) + l) = some m2 → m2.point k = m1.point k := by
    rintro m1 m2 c k hc rfl h1
    refine point_butterfly_of_ne h1 ?_ ?_
    · rintro rfl
      exact hc (passIndex_div (by omega) c).symm
    · rintro rfl
      exact hc (passIndex_add_div hg c).symm
  exact foldlM_once (fun m => m.pair (g + b * (2 * l)) (g + b * (2 * l) + l)) (IsButterfly _ _)
    (List.mem_range.2 hb) List.nodup_range
    (fun m1 m2 c _ hc h1 => Prod.ext (hother m1 m2 c _ hc (passIndex_div (by omega) b) h1)
      (hother m1 m2 c _ hc (passIndex_add_div hg b) h1))
    (fun m1 m2 h1 => butterfly_isButterfly (by omega) h1) h

/-- R214, R215: a pass leaves in the two elements of a pair the butterfly of their old values. -/
theorem fftPass_isButterfly (hd : 2 * l ∣ n) (h : fftPass n l m = some m') {i : Nat} (hi : i < n)
    (hbit : i / l % 2 = 0) : IsButterfly (twiddleRe n l (i % l)) (twiddleIm n l (i % l)) (m.pair i (i + l))
      (m'.pair i (i + l)) := by
  have hl : 0 < 2 * l := Nat.pos_of_dvd_of_pos hd (by omega)
  have hgroup : i % l < l := Nat.mod_lt _ (by omega)
  refine foldlM_once (fun m => m.pair i (i + l)) (IsButterfly _ _) (List.mem_range.2 hgroup) List.nodup_range
    (fun m1 m2 g hg hne h1 => ?_) (fun m1 m2 h1 => ?_) h
  · have hg := List.mem_range.1 hg
    exact Prod.ext (point_passGroup_of_ne hg h1 hne.symm)
      (point_passGroup_of_ne hg h1 (by rw [Nat.add_mod_right]; exact hne.symm))
  · have hpair := passGroup_isButterfly hgroup (Nat.div_lt_div_of_lt_of_dvd hd hi) h1
    rwa [← eq_passIndex hbit] at hpair

end

/-- Settles O34: on whole arrays the pass completes, and each pair takes its butterfly. -/
theorem fftPassButterflies : Obligations.FftPassButterflies := by
  unfold Obligations.FftPassButterflies
  intro l s h hn hl hre him
  have hd : 2 * l.toNat ∣ s.cfg.n := two_mul_dvd_of_legal hn hl
  obtain ⟨m, hm⟩ := Option.isSome_iff_exists.1 ((fftPass_isSome_iff hd s.mem).2 ⟨hre, him⟩)
  refine ⟨m, by rw [exec_fftPass_ready h hl, hm]; rfl, Memory.read_buf_of_buffers (fftPass_buffers hm),
    fun k hk => Prod.mk.inj (point_fftPass_above hm hk), fun i hi hbit ri ii rj ij hri hii hrj hij => ?_⟩
  have hold : s.mem.pair i (i + l.toNat) = ((some ri, some ii), some rj, some ij) := by
    simp only [Memory.pair, Memory.point, hri, hii, hrj, hij]
  have hnew := fftPass_isButterfly hd hm hi hbit ri ii rj ij hold
  rw [twiddleRe_eq, twiddleIm_eq] at hnew
  obtain ⟨hlow, hhigh⟩ := Prod.mk.inj hnew
  obtain ⟨hre_i, him_i⟩ := Prod.mk.inj hlow
  obtain ⟨hre_j, him_j⟩ := Prod.mk.inj hhigh
  exact ⟨hre_j, him_j, hre_i, him_i⟩

end Sys2Proof.Machine
end

section
/-! PROOFS. Unit 7, the whole transform (`spec/45_fft.md` R216, R217): `FFT_RUN` as its parts one after the other. -/

namespace Sys2Proof.Machine

/-- What an operation of the transform leaves besides the storage. -/
def State.transformed (s : State) : State := (s.setOwner .c0 .ct).answer .ok 0

/-- The owner and the answer of an earlier part do not stay. -/
theorem State.transformed_transformed (s : State) (m m' : Memory) :
    { ({ s with mem := m } : State).transformed with mem := m' }.transformed
      = ({ s with mem := m' } : State).transformed := by
  simp [State.transformed, State.setOwner, State.answer]

/-- R216: every power of two below `N` is a legal length of a pass. -/
theorem legalPassLength_two_pow {n k : Nat} (hn : isPow2 n = true) (hk : k < n.log2) :
    legalPassLength n (2 ^ k) = true := by
  have hpow : isPow2 (2 ^ k) = true := by simp [isPow2, Nat.log2_two_pow]
  have hle : 2 ^ k * 2 ≤ n := by
    rw [isPow2_eq hn, ← Nat.pow_succ]
    exact Nat.pow_le_pow_right (by decide) hk
  have hhalf : 2 ^ k ≤ n / 2 := by omega
  simp [legalPassLength, hpow, hhalf]

/-- The operand of the pass of length 2^k. -/
theorem toNat_passLength {k : Nat} (hk : k ≤ 16) : (BitVec.ofNat 32 (2 ^ k)).toNat = 2 ^ k :=
  Nat.mod_eq_of_lt (Nat.pow_lt_pow_right (by decide) (by omega))

theorem log2_le_of_le {n : Nat} (hn : isPow2 n = true) (hle : n ≤ 65536) : n.log2 ≤ 16 := by
  rw [isPow2_eq hn] at hle
  exact (Nat.pow_le_pow_iff_right (by decide)).1 (hle : 2 ^ n.log2 ≤ 2 ^ 16)

theorem execAll_cons_of_fault {i : Instr} {s : State} {f : Fault} (h : exec i s = .fault f) (rest : List Instr) :
    execAll (i :: rest) s = .fault f := by
  simp only [execAll, h]

section

variable {s : State}

/-- R214: a pass after an earlier part of the transform, which left the storage `m`. -/
theorem exec_fftPass_transformed (h : s.readyFor .fftRun) (hn : isPow2 s.cfg.n = true) (hle : s.cfg.n ≤ 65536)
    {k : Nat} (hk : k < s.cfg.n.log2) (m : Memory) :
    exec (.fftPass (BitVec.ofNat 32 (2 ^ k))) ({ s with mem := m } : State).transformed
      = s.withMemory (fftPass s.cfg.n (2 ^ k) m) State.transformed := by
  have hl : (BitVec.ofNat 32 (2 ^ k)).toNat = 2 ^ k :=
    toNat_passLength (hk.le.trans (log2_le_of_le hn hle))
  have hexec := exec_fftPass_ready (s := ({ s with mem := m } : State).transformed)
    (l := BitVec.ofNat 32 (2 ^ k)) h (by rw [hl]; exact legalPassLength_two_pow hn hk)
  rw [hl] at hexec
  refine hexec.trans ?_
  change State.withMemory _ (fftPass s.cfg.n (2 ^ k) m) State.transformed = _
  cases fftPass s.cfg.n (2 ^ k) m with
  | none => rfl
  | some m' => exact congrArg _ (s.transformed_transformed m m')

/-- R99, R216: passes one after the other are the loop of passes on the storage. -/
theorem execAll_passes (h : s.readyFor .fftRun) (hn : isPow2 s.cfg.n = true) (hle : s.cfg.n ≤ 65536)
    (ks : List Nat) (hks : ∀ k ∈ ks, k < s.cfg.n.log2) (m : Memory) :
    execAll (ks.map fun k => .fftPass (BitVec.ofNat 32 (2 ^ k))) ({ s with mem := m } : State).transformed
      = s.withMemory (ks.foldlM (fun m k => fftPass s.cfg.n (2 ^ k) m) m) State.transformed := by
  induction ks generalizing m with
  | nil => rfl
  | cons k rest ih =>
    obtain ⟨hk, hrest⟩ := List.forall_mem_cons.1 hks
    have hexec := exec_fftPass_transformed h hn hle hk m
    rw [List.map_cons, List.foldlM_cons]
    cases hpass : fftPass s.cfg.n (2 ^ k) m with
    | none =>
      rw [hpass] at hexec
      exact execAll_cons_of_fault hexec _
    | some m' =>
      rw [hpass] at hexec
      exact (execAll_cons_of_next hexec _).trans (ih hrest m')

/-- R217: the transform is the bit reversal followed by the passes, also where an element is missing. -/
theorem exec_fftRun_eq_execAll (h : s.readyFor .fftRun) (hn : isPow2 s.cfg.n = true) (hle : s.cfg.n ≤ 65536) :
    exec .fftRun s
      = execAll (.fftBitrev :: (List.range s.cfg.n.log2).map fun k => .fftPass (BitVec.ofNat 32 (2 ^ k))) s := by
  have hrev : exec .fftBitrev s = s.withMemory (bitrevAll s.cfg.n s.mem) State.transformed :=
    exec_fftBitrev_ready h
  rw [exec_fftRun_ready h, fftRun]
  cases hm : bitrevAll s.cfg.n s.mem with
  | none =>
    rw [hm] at hrev
    exact (execAll_cons_of_fault hrev _).symm
  | some m =>
    rw [hm] at hrev
    rw [execAll_cons_of_next hrev]
    exact (execAll_passes h hn hle _ (fun k hk => List.mem_range.1 hk) m).symm

end

/-- R217: the transform leaves whole arrays whole. -/
theorem fftRun_filled {n : Nat} {m m' : Memory} (h : fftRun n m = some m') {sp : Space} (hf : m.filled sp n) :
    m'.filled sp n :=
  fun i hi => (congrFun (congrFun (fftRun_written h) sp) i).trans (hf i hi)

/-- R217: on whole arrays the transform completes, a single point included, for which there is no pass. -/
theorem fftRun_isSome_of_filled {n : Nat} (hn : isPow2 n = true) {m : Memory} (hre : m.filled .re n)
    (him : m.filled .im n) : (fftRun n m).isSome = true := by
  rcases Nat.lt_or_ge n 2 with hsmall | hlarge
  · have hpos : 0 < n := isPow2_eq hn ▸ Nat.two_pow_pos _
    obtain rfl : n = 1 := by omega
    rfl
  · exact (fftRun_isSome_iff hn hlarge m).2 ⟨hre, him⟩

/-- Settles O35: operation and parts lead to the same outcome; on whole arrays it is a completed transform. -/
theorem fftRunIsItsPasses : Obligations.FftRunIsItsPasses := by
  unfold Obligations.FftRunIsItsPasses
  intro s h hn hle
  refine ⟨exec_fftRun_eq_execAll h hn hle, fun hre him => ?_⟩
  obtain ⟨m, hm⟩ := Option.isSome_iff_exists.1 (fftRun_isSome_of_filled hn hre him)
  refine ⟨m, ?_, Memory.read_buf_of_buffers (fftRun_buffers hm), fftRun_filled hm hre, fftRun_filled hm him⟩
  rw [exec_fftRun_ready h, hm]
  rfl

end Sys2Proof.Machine
end

section
/-! PROOFS. Unit 8 (`spec/46_magnitude_peak.md` R231 to R238): the magnitude estimate as a formula on integers, the
peak search as the first maximum of its candidates, the publication, and the races on the transform counter. -/

namespace Sys2Proof.Machine

/-! ### The magnitude estimate -/

theorem exec_mag_ready {re im : Word} {s : State} (h : s.readyFor (.mag re im)) :
    exec (.mag re im) s = .next (s.answer .ok (magnitude s.cfg.beta re im)) := by
  unfold exec
  exact fromIssuer_ready s _ _ h.1 h.2

theorem toInt_maxSigned (a b : Word) : (maxSigned a b).toInt = max a.toInt b.toInt := by
  unfold maxSigned
  split
  · next h => exact (max_eq_right h.le).symm
  · next h => exact (max_eq_left (not_lt.1 h)).symm

theorem toInt_minSigned (a b : Word) : (minSigned a b).toInt = min a.toInt b.toInt := by
  unfold minSigned
  split
  · next h => exact (min_eq_left h.le).symm
  · next h => exact (min_eq_right (not_lt.1 h)).symm

/-- R231: the estimate is the formula of the integers, wrapped once. -/
theorem magnitude_eq (beta re im : Word) : magnitude beta re im
    = wrap32 (max (abs32 re).toInt (abs32 im).toInt
        + (min (abs32 re).toInt (abs32 im).toInt * beta.toInt) / 2 ^ 15) := by
  rw [magnitude, add32_eq, wrap32, BitVec.ofInt_add, ← toInt_maxSigned, ← toInt_minSigned, BitVec.ofInt_toInt]
  rfl

/-- R231: the estimate is symmetric in its operands. -/
theorem magnitude_comm (beta re im : Word) : magnitude beta im re = magnitude beta re im := by
  rw [magnitude_eq, magnitude_eq, max_comm, min_comm]

/-- Settles O36: on the absolute values the estimate is the integer formula, which is symmetric. -/
theorem magResult : Obligations.MagResult := by
  unfold Obligations.MagResult
  intro re im s h
  have hswapped : s.readyFor (.mag im re) := h
  refine ⟨?_, ?_⟩
  · rw [exec_mag_ready h, magnitude_eq, abs32_eq, abs32_eq]
    rfl
  · rw [exec_mag_ready h, exec_mag_ready hswapped, magnitude_comm]

/-! ### The peak search -/

/-- R232, R234: `best` is the outcome of a search of the bins from `lo` to `k - 1`: nothing, or the first bin with the
largest positive estimate. -/
def IsPeak (est : Nat → Word) (lo k : Nat) (best : Word × Nat) : Prop :=
  (best.1 = 0 ∧ best.2 = 0 ∧ ∀ i < k, lo ≤ i → (est i).toInt ≤ 0)
    ∨ (lo ≤ best.2 ∧ best.2 < k ∧ best.1 = est best.2 ∧ 0 < best.1.toInt
      ∧ ∀ i < k, lo ≤ i → (est i).toInt ≤ best.1.toInt ∧ (i < best.2 → (est i).toInt < best.1.toInt))

/-- R232: one iteration of the search, as a choice between the running maximum and the bin `i`. -/
def peakChoice (est : Nat → Word) (lo : Nat) (best : Word × Nat) (i : Nat) : Word × Nat :=
  if lo ≤ i ∧ best.1.toInt < (est i).toInt then (est i, i) else best

section

variable {est : Nat → Word} {lo k : Nat} {best : Word × Nat}

theorem isPeak_zero : IsPeak est lo 0 (0, 0) := .inl ⟨rfl, rfl, fun _ hi => absurd hi (Nat.not_lt_zero _)⟩

theorem IsPeak.nonneg (h : IsPeak est lo k best) : 0 ≤ best.1.toInt := by
  obtain ⟨hmag, -, -⟩ | ⟨-, -, -, hpos, -⟩ := h
  · exact hmag ▸ BitVec.toInt_zero.ge
  · exact hpos.le

theorem IsPeak.bound (h : IsPeak est lo k best) {i : Nat} (hi : i < k) (hlo : lo ≤ i) :
    (est i).toInt ≤ best.1.toInt := by
  obtain ⟨hmag, -, hnone⟩ | ⟨-, -, -, -, hmax⟩ := h
  · rw [hmag]
    exact hnone i hi hlo
  · exact (hmax i hi hlo).1

/-- R232: a candidate above the running maximum becomes the peak, the earlier ones being strictly below it. -/
theorem IsPeak.replace (h : IsPeak est lo k best) (hlo : lo ≤ k) (hgt : best.1.toInt < (est k).toInt) :
    IsPeak est lo (k + 1) (est k, k) := by
  refine .inr ⟨hlo, Nat.lt_succ_self k, rfl, h.nonneg.trans_lt hgt, fun i hi hil => ?_⟩
  obtain hik | rfl := Nat.lt_succ_iff_lt_or_eq.1 hi
  · have hbelow : (est i).toInt < (est k).toInt := (h.bound hik hil).trans_lt hgt
    exact ⟨hbelow.le, fun _ => hbelow⟩
  · exact ⟨le_rfl, fun hlt => absurd hlt (Nat.lt_irrefl i)⟩

/-- R232: a bin that is no candidate, or does not exceed the running maximum, leaves the peak. -/
theorem IsPeak.keep (h : IsPeak est lo k best) (hle : lo ≤ k → (est k).toInt ≤ best.1.toInt) :
    IsPeak est lo (k + 1) best := by
  obtain ⟨hmag, hidx, hnone⟩ | ⟨hlo, hidx, hmag, hpos, hmax⟩ := h
  · refine .inl ⟨hmag, hidx, fun i hi hil => ?_⟩
    obtain hik | rfl := Nat.lt_succ_iff_lt_or_eq.1 hi
    · exact hnone i hik hil
    · simpa [hmag] using hle hil
  · refine .inr ⟨hlo, hidx.trans (Nat.lt_succ_self k), hmag, hpos, fun i hi hil => ?_⟩
    obtain hik | rfl := Nat.lt_succ_iff_lt_or_eq.1 hi
    · exact hmax i hik hil
    · exact ⟨hle hil, fun hlt => absurd hlt (Nat.lt_asymm hidx)⟩

theorem IsPeak.succ (h : IsPeak est lo k best) : IsPeak est lo (k + 1) (peakChoice est lo best k) := by
  unfold peakChoice
  split
  · next hbetter => exact h.replace hbetter.1 hbetter.2
  · next hworse => exact h.keep fun hlo => not_lt.1 fun hlt => hworse ⟨hlo, hlt⟩

end

section

variable {g : Cfg} {m : Memory} {est : Nat → Word}

/-- R231: the bins below `k` are complete and `est` gives their estimates. -/
def Estimates (g : Cfg) (m : Memory) (est : Nat → Word) (k : Nat) : Prop :=
  ∀ i < k, ∃ re im, m.read .re i = some re ∧ m.read .im i = some im ∧ est i = magnitude g.beta re im

theorem peakElement_eq_choice {k i : Nat} (h : Estimates g m est k) (hi : i < k) (best : Word × Nat) :
    peakElement g m best i = some (peakChoice est g.peakMinBin best i) := by
  obtain ⟨re, im, hre, him, hest⟩ := h i hi
  simp only [peakElement, peakChoice, hre, him, hest]
  split <;> rfl

/-- R232: the search over the bins below `k` finds their peak. -/
theorem peakLoop_isPeak {k : Nat} (h : Estimates g m est k) :
    ∃ best, (List.range k).foldlM (peakElement g m) (0, 0) = some best ∧ IsPeak est g.peakMinBin k best := by
  induction k with
  | zero => exact ⟨(0, 0), rfl, isPeak_zero⟩
  | succ k ih =>
    obtain ⟨best, hloop, hpeak⟩ := ih fun i hi => h i (hi.trans (Nat.lt_succ_self k))
    refine ⟨peakChoice est g.peakMinBin best k, ?_, hpeak.succ⟩
    rw [List.range_succ, List.foldlM_append, hloop]
    simp only [Option.bind_eq_bind, Option.bind_some, List.foldlM_cons, List.foldlM_nil,
      peakElement_eq_choice h (Nat.lt_succ_self k), Option.pure_def]

theorem peakSearch_isPeak (h : Estimates g m est (g.n / 2)) :
    ∃ best, peakSearch g m = some best ∧ IsPeak est g.peakMinBin (g.n / 2) best := peakLoop_isPeak h

end

/-- Settles O37: what the search finds is the peak of the candidate bins. -/
theorem peakScanFindsFirstMaximum : Obligations.PeakScanFindsFirstMaximum := by
  unfold Obligations.PeakScanFindsFirstMaximum
  intro s est h hest
  obtain ⟨⟨mag, idx⟩, hsearch, hpeak⟩ := peakSearch_isPeak hest
  exact ⟨mag, idx, exec_peakScan_ready_some h hsearch, hpeak⟩

/-! ### The publication -/

/-- R235: the frequency's quotient lies in the range in which `f32Rne` rounds to the nearest binary32. -/
theorem f32Rne_nearestEven_of_le {num den : Nat} (hden : 1 ≤ den) (hmax : den ≤ 65536) (hnum : num < 2 ^ 48) :
    NearestEven ((num : ℚ) / den) (f32Rne num den) := by
  have hlo : num = 0 ∨ den ≤ num * 2 ^ 40 := by omega
  have hhi : num < den * 2 ^ 127 := by omega
  exact (f32Rne_nearestEven hden hlo hhi).1

/-- R235: the frequency is the exact quotient rounded once; its numerator has 48 bits. -/
theorem peakFrequency_nearestEven {g : Cfg} {idx : Nat} (hidx : idx < 2 ^ 16) (hn : 1 ≤ g.n) (hmax : g.n ≤ 65536)
    (hfs : g.fsAcq < 2 ^ 32) : NearestEven ((idx : ℚ) * g.fsAcq / g.n) (peakFrequency g idx) := by
  have hnum : idx * g.fsAcq < 2 ^ 48 := by
    calc idx * g.fsAcq < 2 ^ 16 * 2 ^ 32 := Nat.mul_lt_mul'' hidx hfs
      _ = 2 ^ 48 := by norm_num
  rw [peakFrequency, ← Nat.cast_mul]
  exact f32Rne_nearestEven_of_le hn hmax hnum

theorem peakFrequency_zero (g : Cfg) : peakFrequency g 0 = 0 := by
  rw [peakFrequency, Nat.zero_mul, f32Rne_zero]

/-- R235: the next state of a publication. The frequency stays a variable, so that the states are compared without
computing it. -/
theorem exec_pubFreq_eq {s : State} (h : s.readyFor .pubFreq) {f : Word}
    (hf : f = peakFrequency s.cfg s.cons.maxIdx.toNat) :
    exec .pubFreq s = .next { s with
      tele := { s.tele with maxFrequency := f }
      coreOwner := s.coreOwner.set .c0 .ct
      reply := some ⟨0, .ok⟩ } := by
  rw [exec_pubFreq_ready h, ← hf]
  rfl

/-- Settles O38: the frequency is rounded once, and that of bin 0 is +0.0. -/
theorem pubFreqIsNearestEven : Obligations.PubFreqIsNearestEven := by
  unfold Obligations.PubFreqIsNearestEven
  intro s h hn hmax hfs
  refine ⟨peakFrequency s.cfg s.cons.maxIdx.toNat, exec_pubFreq_eq h rfl,
    peakFrequency_nearestEven s.cons.maxIdx.isLt hn hmax hfs, fun hidx => ?_⟩
  have hbin : s.cons.maxIdx.toNat = 0 := congrArg BitVec.toNat hidx
  rw [hbin, peakFrequency_zero]

/-- Settles O39: the word and the issuer are those of the table, the effect that of the operation accepted. -/
theorem pubCntLdResult : Obligations.PubCntLdResult := by
  unfold Obligations.PubCntLdResult
  exact ⟨rfl, rfl, fun s h => exec_pubCntLd_ready h⟩

/-- R237: the increment of a word is the increment of its value modulo 2^32. -/
theorem ofNat_toNat_add_one (a : Word) : BitVec.ofNat 32 ((a.toNat + 1) % 2 ^ 32) = a + 1 := by
  apply BitVec.eq_of_toNat_eq
  simp

/-- Settles O40: the increment of the operation accepted is that of the values. -/
theorem pubCntStResult : Obligations.PubCntStResult := by
  unfold Obligations.PubCntStResult
  intro s h
  rw [exec_pubCntSt_ready h, ofNat_toNat_add_one]
  rfl

/-! ### The heartbeat's accesses to the counter -/

section

variable {s t : State} {c : CoreId}

theorem exec_hbRdFft_ready (h : s.readyFor (.hbRdFft c)) : exec (.hbRdFft c) s
    = .next (((s.setHeart c { s.heart.get c with rptFft := s.tele.fftCount }).setOwner c .hb).answer .ok 0) := by
  unfold exec
  exact fromIssuer_ready s _ _ h.1 h.2

theorem exec_hbEmit_printed (h : s.readyFor (.hbEmit c)) (hcon : s.conReady = true) : exec (.hbEmit c) s
    = .next (((s.emit (statusLine c (s.heart.get c))).setOwner c .hb).answer .ok 0) := by
  show execHbEmit c s = _
  rw [execHbEmit, fromIssuer_ready s (.hb c) _ h.1 h.2, hcon]

theorem exec_hbEmit_skipped (h : s.readyFor (.hbEmit c)) (hcon : s.conReady = false) : exec (.hbEmit c) s
    = .next ((s.raise .periph).setOwner c .hb) := by
  show execHbEmit c s = _
  rw [execHbEmit, fromIssuer_ready s (.hb c) _ h.1 h.2, hcon]

theorem exec_hbClear_ready (h : s.readyFor (.hbClear c)) : exec (.hbClear c) s
    = .next ((({ s with tele := { s.tele with fftCount := 0 } } : State).setOwner c .hb).answer .ok 0) := by
  unfold exec
  exact fromIssuer_ready s _ _ h.1 h.2

/-! ### A turn of a task -/

/-- R273: an answer other than NOTREADY advances the sequencer. -/
theorem advanceUnlessNotReady_of_reply (task : Task) {r : Reply} (hreply : t.reply = some r)
    (hst : r.st ≠ .notReady) : advanceUnlessNotReady task (.next t) = .next (t.advance task) := by
  obtain ⟨res, st⟩ := r
  cases st with
  | notReady => exact absurd rfl hst
  | ok | div0 | cfgerr | periph | illcmd | notRunning => simp only [advanceUnlessNotReady, hreply]

/-- R273: the turn of an enabled task whose operation is answered other than NOTREADY. -/
theorem taskStep_of_answered {task : Task} {conReady : Bool} {r : Reply} (henabled : s.enabled task = true)
    (hexec : exec (s.nextOperation task) (s.open (taskAgent task) conReady) = .next t)
    (hreply : t.reply = some r) (hst : r.st ≠ .notReady) : s.taskStep task conReady = .next (t.advance task) := by
  rw [State.taskStep, if_pos henabled, hexec, advanceUnlessNotReady_of_reply task hreply hst]

theorem run_succ_of_step {k : Nat} (h : step s = .next t) :
    Host.Core.run Sys2Proof.core (k + 1) s = Host.Core.run Sys2Proof.core k t := by
  have hstep : Sys2Proof.core.step s = .next t := h
  simp only [Host.Core.run, hstep]

end

/-! ### The races on the counter -/

/-- R238: the consumer holds core 0 at position `ct` of its program, the heartbeat of core 1 holds its core at `hb`;
the transform counter and the two registers it is read into hold `count`, `tmp` and `latch`. -/
def Racing (s : State) (ct hb : BitVec 3) (count tmp latch : Word) : Prop :=
  s.runState = .running ∧ s.coreOwner.at0 = .ct ∧ s.coreOwner.at1 = .hb ∧ s.cons.ctPc = ct ∧ s.heart.at1.hbPc = hb
    ∧ s.tele.fftCount = count ∧ s.cons.cntTmp = tmp ∧ s.heart.at1.rptFft = latch

namespace Racing

variable {s : State} {ct hb : BitVec 3} {count tmp latch : Word} {q : Bool}

theorem running (h : Racing s ct hb count tmp latch) : s.runState = .running := h.1

/-- R238: a turn of a task keeps the events to come, so the step that takes it leaves the rest of the inbox. -/
theorem step_of_turn {ct' hb' : BitVec 3} {count' tmp' latch' : Word} {task : Task} {rest : List Event}
    (h : Racing s ct hb count tmp latch) (hin : s.inbox = .task task q :: rest)
    (hturn : ∀ u, Racing u ct hb count tmp latch →
      ∃ t, u.taskStep task q = .next t ∧ t.inbox = u.inbox ∧ Racing t ct' hb' count' tmp' latch') :
    ∃ t, step s = .next t ∧ t.inbox = rest ∧ Racing t ct' hb' count' tmp' latch' := by
  obtain ⟨t, ht, hinbox, hnext⟩ := hturn { s with inbox := rest } h
  exact ⟨t, (step_of_inbox_cons hin).trans ht, hinbox, hnext⟩

/-! What the parts of a turn do to the race: the request is opened, the task keeps its core and answers, and the
sequencer advances. -/

theorem opened (h : Racing s ct hb count tmp latch) (a : Agent) : Racing (s.open a q) ct hb count tmp latch := h

theorem owned_ct (h : Racing s ct hb count tmp latch) : Racing (s.setOwner .c0 .ct) ct hb count tmp latch := by
  obtain ⟨hrun, -, rest⟩ := h
  exact ⟨hrun, rfl, rest⟩

theorem owned_hb (h : Racing s ct hb count tmp latch) : Racing (s.setOwner .c1 .hb) ct hb count tmp latch := by
  obtain ⟨hrun, howner0, -, rest⟩ := h
  exact ⟨hrun, howner0, rfl, rest⟩

theorem answered (h : Racing s ct hb count tmp latch) (st : Status) (res : Word) :
    Racing (s.answer st res) ct hb count tmp latch := h

theorem advanced_ct (h : Racing s ct hb count tmp latch) : Racing (s.advance .ct) (ct + 1) hb count tmp latch := by
  obtain ⟨hrun, howner0, howner1, hct, rest⟩ := h
  exact ⟨hrun, howner0, howner1, congrArg (· + 1) hct, rest⟩

theorem advanced_hb (h : Racing s ct hb count tmp latch) :
    Racing (s.advance (.hb .c1)) ct (hb + 1) count tmp latch := by
  obtain ⟨hrun, howner0, howner1, hct, hhb, rest⟩ := h
  exact ⟨hrun, howner0, howner1, hct, congrArg (· + 1) hhb, rest⟩

/-! What the accesses do to the counter and to the two registers it is read into. -/

theorem loaded (h : Racing s ct hb count tmp latch) :
    Racing { s with cons := { s.cons with cntTmp := s.tele.fftCount } } ct hb count count latch := by
  obtain ⟨hrun, howner0, howner1, hct, hhb, hcount, -, hlatch⟩ := h
  exact ⟨hrun, howner0, howner1, hct, hhb, hcount, hcount, hlatch⟩

theorem stored (h : Racing s ct hb count tmp latch) :
    Racing { s with tele := { s.tele with fftCount := s.cons.cntTmp + 1 } } ct hb (tmp + 1) tmp latch := by
  obtain ⟨hrun, howner0, howner1, hct, hhb, -, htmp, hlatch⟩ := h
  exact ⟨hrun, howner0, howner1, hct, hhb, congrArg (· + 1) htmp, htmp, hlatch⟩

theorem latched (h : Racing s ct hb count tmp latch) :
    Racing (s.setHeart .c1 { s.heart.get .c1 with rptFft := s.tele.fftCount }) ct hb count tmp count := by
  obtain ⟨hrun, howner0, howner1, hct, hhb, hcount, htmp, -⟩ := h
  exact ⟨hrun, howner0, howner1, hct, hhb, hcount, htmp, hcount⟩

theorem cleared (h : Racing s ct hb count tmp latch) :
    Racing { s with tele := { s.tele with fftCount := 0 } } ct hb 0 tmp latch := by
  obtain ⟨hrun, howner0, howner1, hct, hhb, -, rest⟩ := h
  exact ⟨hrun, howner0, howner1, hct, hhb, rfl, rest⟩

theorem emitted (h : Racing s ct hb count tmp latch) (o : Output) : Racing (s.emit o) ct hb count tmp latch := h

theorem raised (h : Racing s ct hb count tmp latch) (k : Status) : Racing (s.raise k) ct hb count tmp latch := h

/-- R273: the consumer's turn, if its operation is answered other than NOTREADY. -/
theorem turn_ct {t : State} {r : Reply} {count' tmp' latch' : Word} (h : Racing s ct hb count tmp latch)
    (hexec : exec (consumerProgram ct) (s.open .ct q) = .next t) (hreply : t.reply = some r)
    (hst : r.st ≠ .notReady) (ht : Racing t ct hb count' tmp' latch') :
    ∃ u, s.taskStep .ct q = .next u ∧ u.inbox = s.inbox ∧ Racing u (ct + 1) hb count' tmp' latch' := by
  obtain ⟨hrun, howner0, -, hct, -⟩ := h
  have hop : exec (s.nextOperation .ct) (s.open .ct q) = .next t := by
    rw [State.nextOperation, hct, hexec]
  exact ⟨t.advance .ct, taskStep_of_answered ((s.enabled_iff .ct).2 ⟨hrun, .inr howner0⟩) hop hreply hst,
    (exec_frame hexec).inbox, ht.advanced_ct⟩

/-- R273: the heartbeat's turn, if its operation is answered other than NOTREADY. -/
theorem turn_hb {t : State} {r : Reply} {count' tmp' latch' : Word} (h : Racing s ct hb count tmp latch)
    (hexec : exec (heartbeatProgram .c1 hb) (s.open (.hb .c1) q) = .next t) (hreply : t.reply = some r)
    (hst : r.st ≠ .notReady) (ht : Racing t ct hb count' tmp' latch') :
    ∃ u, s.taskStep (.hb .c1) q = .next u ∧ u.inbox = s.inbox ∧ Racing u ct (hb + 1) count' tmp' latch' := by
  obtain ⟨hrun, -, howner1, -, hhb, -⟩ := h
  have hpc : (s.heart.get .c1).hbPc = hb := hhb
  have hop : exec (s.nextOperation (.hb .c1)) (s.open (.hb .c1) q) = .next t := by
    rw [State.nextOperation, hpc, hexec]
  exact ⟨t.advance (.hb .c1),
    taskStep_of_answered ((s.enabled_iff (.hb .c1)).2 ⟨hrun, .inr howner1⟩) hop hreply hst,
    (exec_frame hexec).inbox, ht.advanced_hb⟩

/-- R236: the consumer reads the counter. -/
theorem load (h : Racing s 6 hb count tmp latch) :
    ∃ t, s.taskStep .ct q = .next t ∧ t.inbox = s.inbox ∧ Racing t 7 hb count count latch :=
  h.turn_ct (exec_pubCntLd_ready ⟨h.running, rfl⟩) rfl nofun ((h.opened .ct).loaded.owned_ct.answered .ok 0)

/-- R237: the consumer writes back one more than it read. -/
theorem store (h : Racing s 7 hb count tmp latch) :
    ∃ t, s.taskStep .ct q = .next t ∧ t.inbox = s.inbox ∧ Racing t 0 hb (tmp + 1) tmp latch :=
  h.turn_ct (exec_pubCntSt_ready ⟨h.running, rfl⟩) rfl nofun ((h.opened .ct).stored.owned_ct.answered .ok 0)

/-- R255: the heartbeat reads the counter. -/
theorem latchCount (h : Racing s ct 3 count tmp latch) :
    ∃ t, s.taskStep (.hb .c1) q = .next t ∧ t.inbox = s.inbox ∧ Racing t ct 4 count tmp count :=
  h.turn_hb (exec_hbRdFft_ready ⟨h.running, rfl⟩) rfl nofun ((h.opened (.hb .c1)).latched.owned_hb.answered .ok 0)

/-- R256: the heartbeat prints its line, or skips it; it goes on either way. -/
theorem report (h : Racing s ct 4 count tmp latch) :
    ∃ t, s.taskStep (.hb .c1) q = .next t ∧ t.inbox = s.inbox ∧ Racing t ct 5 count tmp latch := by
  cases q with
  | true =>
    exact h.turn_hb (exec_hbEmit_printed ⟨h.running, rfl⟩ rfl) rfl nofun
      (((h.opened (.hb .c1)).emitted _).owned_hb.answered .ok 0)
  | false =>
    exact h.turn_hb (exec_hbEmit_skipped ⟨h.running, rfl⟩ rfl) rfl nofun
      ((h.opened (.hb .c1)).raised .periph).owned_hb

/-- R257: the heartbeat clears the counter. -/
theorem clear (h : Racing s ct 5 count tmp latch) :
    ∃ t, s.taskStep (.hb .c1) q = .next t ∧ t.inbox = s.inbox ∧ Racing t ct 6 0 tmp latch :=
  h.turn_hb (exec_hbClear_ready ⟨h.running, rfl⟩) rfl nofun ((h.opened (.hb .c1)).cleared.owned_hb.answered .ok 0)

/-- R238 (a): a clear between load and store is undone by the store. -/
theorem clear_undone {q1 q2 q3 : Bool} (h : Racing s 6 5 count tmp latch)
    (hin : s.inbox = [.task .ct q1, .task (.hb .c1) q2, .task .ct q3]) :
    ∃ t, Host.Core.run Sys2Proof.core 3 s = .next t ∧ Racing t 0 6 (count + 1) count latch := by
  obtain ⟨s1, hs1, hin1, h1⟩ := h.step_of_turn hin fun _ hu => hu.load
  obtain ⟨s2, hs2, hin2, h2⟩ := h1.step_of_turn hin1 fun _ hu => hu.clear
  obtain ⟨s3, hs3, -, h3⟩ := h2.step_of_turn hin2 fun _ hu => hu.store
  refine ⟨s3, ?_, h3⟩
  rw [run_succ_of_step hs1, run_succ_of_step hs2, run_succ_of_step hs3]
  rfl

/-- R238 (b): a load and store between the heartbeat's read and its clear reach neither the report nor the
counter. -/
theorem increment_lost {q1 q2 q3 q4 q5 : Bool} (h : Racing s 6 3 count tmp latch)
    (hin : s.inbox = [.task (.hb .c1) q1, .task .ct q2, .task .ct q3, .task (.hb .c1) q4, .task (.hb .c1) q5]) :
    ∃ t, Host.Core.run Sys2Proof.core 5 s = .next t ∧ Racing t 0 6 0 count count := by
  obtain ⟨s1, hs1, hin1, h1⟩ := h.step_of_turn hin fun _ hu => hu.latchCount
  obtain ⟨s2, hs2, hin2, h2⟩ := h1.step_of_turn hin1 fun _ hu => hu.load
  obtain ⟨s3, hs3, hin3, h3⟩ := h2.step_of_turn hin2 fun _ hu => hu.store
  obtain ⟨s4, hs4, hin4, h4⟩ := h3.step_of_turn hin3 fun _ hu => hu.report
  obtain ⟨s5, hs5, -, h5⟩ := h4.step_of_turn hin4 fun _ hu => hu.clear
  refine ⟨s5, ?_, h5⟩
  rw [run_succ_of_step hs1, run_succ_of_step hs2, run_succ_of_step hs3, run_succ_of_step hs4, run_succ_of_step hs5]
  rfl

end Racing

/-- Settles O41: each interleaving is run access by access. -/
theorem counterRaces : Obligations.CounterRaces := by
  unfold Obligations.CounterRaces
  intro s q1 q2 q3 q4 q5 hrun hct howner0 howner1
  have hracing : Racing s 6 s.heart.at1.hbPc s.tele.fftCount s.cons.cntTmp s.heart.at1.rptFft :=
    ⟨hrun, howner0, howner1, hct, rfl, rfl, rfl, rfl⟩
  refine ⟨fun hpc hin => ?_, fun hpc hin => ?_⟩
  · rw [hpc] at hracing
    obtain ⟨t, ht, hend⟩ := hracing.clear_undone hin
    obtain ⟨-, -, -, -, -, hcount, -⟩ := hend
    exact ⟨t, ht, hcount⟩
  · rw [hpc] at hracing
    obtain ⟨t, ht, hend⟩ := hracing.increment_lost hin
    obtain ⟨-, -, -, -, -, hcount, -, hlatch⟩ := hend
    exact ⟨t, ht, hlatch, hcount⟩

end Sys2Proof.Machine
end

section
/-! PROOFS. What a handled event leaves (`spec/48_control_and_access.md` R273), and from it the token of the handshake
(`spec/47_semaphore_sync.md` R268). -/

namespace Sys2Proof.Machine

section

variable {s t u : State} {i : Instr} {a : Agent} {r : Request} {q : Bool} {task : Task} {g : Cfg} {e : Event}

/-! ### Requests -/

/-- R290: accepted or not, a request changes only what an operation of the requester, or of the host, may change. -/
theorem exec_frame_requester (h : exec i s = .next t) :
    ∃ j : Instr, (j.issuer = s.agent ∨ j.issuer = .host) ∧ Frame j s t := by
  by_cases hr : s.runState = .running
  · by_cases ha : s.agent = i.issuer
    · exact ⟨i, .inl ha.symm, exec_frame h⟩
    · cases (exec_wrongIssuer hr ha).symm.trans h
      exact ⟨.fxAbs 0, .inr rfl, .raise _ s (by decide)⟩
  · cases (exec_stopped i hr).symm.trans h
    exact ⟨.fxAbs 0, .inr rfl, .answer _ s _ _⟩

/-- The same for every request, legal or not. -/
theorem serve_frame (h : s.serve a r q = .next t) :
    ∃ j : Instr, (j.issuer = a ∨ j.issuer = .host) ∧ Frame j (s.open a q) t := by
  unfold State.serve at h
  split at h
  · exact exec_frame_requester h
  · rw [illegal_eq] at h
    split at h <;> cases h
    · exact ⟨.fxAbs 0, .inr rfl, .raise _ _ (by decide)⟩
    · exact ⟨.fxAbs 0, .inr rfl, .answer _ _ _ _⟩

/-- R96: a request from outside is in the frame of an operation that is no task's. -/
theorem serve_frame_external (ha : a.external = true) (h : s.serve a r q = .next t) :
    ∃ j : Instr, (∀ c, j.issuer ≠ .hb c) ∧ Frame j (s.open a q) t := by
  obtain ⟨j, hj, hf⟩ := serve_frame h
  refine ⟨j, fun c hc => ?_, hf⟩
  rcases hj with hj | hj
  · rw [← hj, hc] at ha
    cases ha
  · cases hc.symm.trans hj

/-! ### Turns -/

theorem nextOperation_issuer (s : State) (task : Task) : (s.nextOperation task).issuer = taskAgent task := by
  cases task with
  | hb c => exact heartbeatProgram_issuer c _
  | ct =>
    show (consumerProgram s.cons.ctPc).issuer = .ct
    unfold consumerProgram
    split <;> rfl

/-- R273: a sequencer's advance writes its own position only. -/
@[simp] theorem State.advance_inbox (s : State) (task : Task) : (s.advance task).inbox = s.inbox := by
  cases task <;> rfl

@[simp] theorem State.advance_runState (s : State) (task : Task) : (s.advance task).runState = s.runState := by
  cases task <;> rfl

/-- R273: a turn that leads to a next state issued nothing, or its operation did and the sequencer then stayed or
advanced. -/
theorem taskStep_cases (h : s.taskStep task q = .next u) : u = { s with reply := none }
    ∨ s.enabled task = true ∧ ∃ t, exec (s.nextOperation task) (s.open (taskAgent task) q) = .next t
      ∧ advanceUnlessNotReady task (.next t) = .next u := by
  unfold State.taskStep at h
  split at h
  · next henabled =>
    refine .inr ⟨henabled, ?_⟩
    cases hexec : exec (s.nextOperation task) (s.open (taskAgent task) q) with
    | next t => exact ⟨t, rfl, hexec ▸ h⟩
    | fault f => cases hexec ▸ h
    | refused f => cases hexec ▸ h
  · cases h
    exact .inl rfl

/-- R66, R273: what a turn of a task leaves: its operation stayed inside its frame, and beyond that the sequencer's own
position may have moved. -/
theorem taskStep_frame (h : s.taskStep task q = .next u) : u = { s with reply := none }
    ∨ ∃ t, Frame (s.nextOperation task) (s.open (taskAgent task) q) t ∧ (u = t ∨ u = t.advance task) := by
  obtain hidle | ⟨-, t, hexec, hadvance⟩ := taskStep_cases h
  · exact .inl hidle
  · refine .inr ⟨t, exec_frame hexec, ?_⟩
    obtain hstay | hmove := advanceUnlessNotReady_next task t
    · exact .inl (Host.Outcome.next.inj (hadvance.symm.trans hstay))
    · exact .inr (Host.Outcome.next.inj (hadvance.symm.trans hmove))

/-! ### Reset -/

/-- R320, log 10: outside INIT, `rst` going to 0 does nothing. -/
theorem State.handle_rstLow_of_not_init (hs : s.runState ≠ .init) (g : Cfg) :
    s.handle (.rstLow g) = .next { s with reply := none } := by
  cases hr : s.runState with
  | init => exact absurd hr hs
  | running => simp only [State.handle, hr]
  | halted => simp only [State.handle, hr]

@[simp] theorem State.initialise_inbox (s : State) (g : Cfg) : (s.initialise g).inbox = s.inbox := by
  obtain ⟨-, hrun⟩ | ⟨-, -, hrun⟩ | ⟨-, -, hrun⟩ := s.initialise_cases g
  all_goals
    rw [hrun]
    rfl

/-- R325, R328: the sequence leaves the token where it is, or puts it at `GO[0]`. -/
theorem State.tokens_initialise (h : s.tokens = 1) (g : Cfg) : (s.initialise g).tokens = 1 := by
  obtain ⟨-, hrun⟩ | ⟨-, -, hrun⟩ | ⟨-, -, hrun⟩ := s.initialise_cases g
  · exact hrun ▸ h
  · exact hrun ▸ h
  · exact hrun ▸ State.tokens_setRegisters_start _

/-! ### Events -/

/-- R96: no event changes what is still to come. -/
theorem inbox_of_handle (h : s.handle e = .next t) : t.inbox = s.inbox := by
  cases e with
  | request a r q =>
    obtain ⟨j, -, hf⟩ := serve_frame h
    exact hf.inbox
  | task task q =>
    obtain rfl | ⟨v, hf, rfl | rfl⟩ := taskStep_frame h
    · rfl
    · exact hf.inbox
    · exact (State.advance_inbox v task).trans hf.inbox
  | rstHigh =>
    cases h
    rfl
  | rstLow g =>
    by_cases hinit : s.runState = .init
    · cases (State.handle_rstLow_of_init hinit g).symm.trans h
      exact State.initialise_inbox _ g
    · cases (State.handle_rstLow_of_not_init hinit g).symm.trans h
      rfl

/-- What a step can do: it takes an event, from the inbox or one that occurs, and handles it, or it drops an arrival
that cannot occur (R96, log 2). -/
theorem step_cases (h : step s = .next t) : ∃ (rest : List Event) (k : Nat), rest ⊆ s.inbox
    ∧ (t = { s with inbox := rest, arrivals := k, reply := none }
      ∨ ∃ e, (e ∈ s.inbox ∨ e.occurs = true)
        ∧ ({ s with inbox := rest, arrivals := k } : State).handle e = .next t) := by
  cases hin : s.inbox with
  | cons e rest =>
    rw [step_of_inbox_cons hin] at h
    exact ⟨rest, s.arrivals, List.subset_cons_self e rest, .inr ⟨e, .inl List.mem_cons_self, h⟩⟩
  | nil =>
    rw [step_of_inbox_nil hin] at h
    refine ⟨[], s.arrivals + 1, List.Subset.refl [], ?_⟩
    split at h
    · next ho => exact .inr ⟨_, .inr ho, hin ▸ h⟩
    · cases h
      exact .inl (by rw [hin])

/-! ### The token -/

/-- R268: a turn keeps the one token: of a heartbeat by its program, of the consumer because it has none. -/
theorem tokens_taskStep (htoken : s.tokens = 1) (h : s.taskStep task q = .next u) : u.tokens = 1 := by
  obtain rfl | ⟨henabled, t, hexec, hadvance⟩ := taskStep_cases h
  · exact htoken
  · cases task with
    | hb c =>
      have hrun : s.runState = .running := ((s.enabled_iff (.hb c)).1 henabled).1
      exact tokens_heartbeat (s := s.open (.hb c) q) hrun rfl htoken hexec hadvance
    | ct =>
      have hissuer : (s.nextOperation .ct).issuer = .ct := nextOperation_issuer s .ct
      have hkept : t.tokens = s.tokens := (exec_frame hexec).tokens_eq (by simp [hissuer])
      obtain hstay | hmove := advanceUnlessNotReady_next .ct t
      · cases hstay.symm.trans hadvance
        exact hkept.trans htoken
      · cases hmove.symm.trans hadvance
        exact hkept.trans htoken

/-- R268: so does every event that occurs. -/
theorem tokens_of_handle (he : e.occurs = true) (htoken : s.tokens = 1) (h : s.handle e = .next t) :
    t.tokens = 1 := by
  cases e with
  | request a r q =>
    obtain ⟨j, hj, hf⟩ := serve_frame_external he h
    exact (hf.tokens_eq hj).trans htoken
  | task task q => exact tokens_taskStep htoken h
  | rstHigh =>
    cases h
    rfl
  | rstLow g =>
    by_cases hinit : s.runState = .init
    · cases (State.handle_rstLow_of_init hinit g).symm.trans h
      exact State.tokens_initialise (s := { s with reply := none }) htoken g
    · cases (State.handle_rstLow_of_not_init hinit g).symm.trans h
      exact htoken

end

/-- Settles O50: the event taken is one that occurs, and the handling of each such event keeps the token and the
events to come. -/
theorem tokenKept : Obligations.TokenKept := by
  unfold Obligations.TokenKept
  intro s t hoccurs htoken hstep
  obtain ⟨rest, k, hrest, rfl | ⟨e, he, hhandle⟩⟩ := step_cases hstep
  · exact ⟨fun x hx => hoccurs x (hrest hx), htoken⟩
  · have hinbox : t.inbox = rest := inbox_of_handle hhandle
    refine ⟨fun x hx => hoccurs x (hrest (hinbox ▸ hx)), ?_⟩
    exact tokens_of_handle (s := { s with inbox := rest, arrivals := k }) (he.elim (hoccurs e) id) htoken hhandle

/-- Settles O51: no event is still to come, and the registers of R55 hold `GO[0]` alone. -/
theorem tokenAtReset : Obligations.TokenAtReset := by
  unfold Obligations.TokenAtReset
  exact ⟨invariantAtReset.occurs, invariantAtReset.token, rfl⟩

/-! ### The fatal state (R292) -/

section

variable {s t : State} {e : Event}

/-- R292: a RUNNING block leaves RUNNING by `rst` = 1 only. -/
theorem running_of_handle (hr : s.runState = .running) (hrst : e ≠ .rstHigh) (h : s.handle e = .next t) :
    t.runState = .running := by
  cases e with
  | request a r q =>
    obtain ⟨j, -, hf⟩ := serve_frame h
    exact hf.runState.trans hr
  | task task q =>
    obtain rfl | ⟨v, hf, rfl | rfl⟩ := taskStep_frame h
    · exact hr
    · exact hf.runState.trans hr
    · exact (State.advance_runState v task).trans (hf.runState.trans hr)
  | rstHigh => exact absurd rfl hrst
  | rstLow g =>
    cases (State.handle_rstLow_of_not_init (s := s) (by simp [hr]) g).symm.trans h
    exact hr

theorem not_halted_of_handle (hr : s.runState = .running) (h : s.handle e = .next t) : t.runState ≠ .halted := by
  by_cases hrst : e = .rstHigh
  · subst hrst
    cases h
    exact nofun
  · simp [running_of_handle hr hrst h]

/-- R292: whatever comes to a halted block but `rst` = 1 changes the ports alone. -/
theorem handle_halted (hh : s.runState = .halted) (hrst : e ≠ .rstHigh) :
    ∃ (a : Agent) (conReady : Bool) (reply : Option Reply),
      s.handle e = .next { s with agent := a, conReady := conReady, reply := reply } := by
  have hstopped : s.runState ≠ .running := by simp [hh]
  cases e with
  | request a r q => exact ⟨a, q, _, serve_stopped hstopped a r q⟩
  | task task q => exact ⟨s.agent, s.conReady, none, taskStep_stopped hstopped task q⟩
  | rstHigh => exact absurd rfl hrst
  | rstLow g => exact ⟨s.agent, s.conReady, none, State.handle_rstLow_of_not_init (by simp [hh]) g⟩

end

/-- Settles O57: by the event, in a halted block and in a RUNNING one. -/
theorem haltIsForever : Obligations.HaltIsForever := by
  unfold Obligations.HaltIsForever
  refine ⟨fun s e rest hh hin hrst => ?_, fun s t hr hstep => ?_⟩
  · rw [step_of_inbox_cons hin]
    exact handle_halted (s := { s with inbox := rest }) hh hrst
  · obtain ⟨rest, k, -, rfl | ⟨e, -, hhandle⟩⟩ := step_cases hstep
    · simp [hr]
    · exact not_halted_of_handle (s := { s with inbox := rest, arrivals := k }) hr hhandle

end Sys2Proof.Machine
end

section
/-! PROOFS. Unit 9, the operations of the handshake, the heartbeat body and the sleep (`spec/47_semaphore_sync.md`
R251 to R259). -/

namespace Sys2Proof.Machine

section

variable {s : State} {c : CoreId}

/-! ### The operations, accepted -/

theorem exec_hbCount_ready (h : s.readyFor (.hbCount c)) : exec (.hbCount c) s
    = .next (((s.countFiring c).setOwner c .hb).answer .ok (s.tele.pingPong + 1)) := by
  unfold exec
  exact fromIssuer_ready s _ _ h.1 h.2

theorem exec_hbRdFreq_ready (h : s.readyFor (.hbRdFreq c)) : exec (.hbRdFreq c) s
    = .next (((s.setHeart c { s.heart.get c with rptFreq := s.tele.maxFrequency }).setOwner c .hb).answer .ok 0) := by
  unfold exec
  exact fromIssuer_ready s _ _ h.1 h.2

theorem exec_hbSleep_idle (h : s.readyFor (.hbSleep c)) (hsleep : (s.heart.get c).sleepState = .idle) :
    exec (.hbSleep c) s = .next (((s.setSleep c .counting).setOwner c .none).answer .notReady 0) := by
  show execHbSleep c s = _
  rw [execHbSleep, fromIssuer_ready s (.hb c) _ h.1 h.2, hsleep]

theorem exec_hbSleep_counting (h : s.readyFor (.hbSleep c)) (hsleep : (s.heart.get c).sleepState = .counting) :
    exec (.hbSleep c) s = .next ((s.setOwner c .none).answer .notReady 0) := by
  show execHbSleep c s = _
  rw [execHbSleep, fromIssuer_ready s (.hb c) _ h.1 h.2, hsleep]

theorem exec_hbSleep_expired (h : s.readyFor (.hbSleep c)) (hsleep : (s.heart.get c).sleepState = .expired) :
    exec (.hbSleep c) s = .next (((s.setSleep c .idle).setOwner c .none).answer .ok 0) := by
  show execHbSleep c s = _
  rw [execHbSleep, fromIssuer_ready s (.hb c) _ h.1 h.2, hsleep]

theorem exec_sleepExpire_counting (h : s.readyFor (.sleepExpire c))
    (hsleep : (s.heart.get c).sleepState = .counting) :
    exec (.sleepExpire c) s = .next ((s.setSleep c .expired).answer .ok 0) := by
  show execSleepExpire c s = _
  rw [execSleepExpire, fromIssuer_ready s (.sleepTimer c) _ h.1 h.2, hsleep]

/-- R259: with no sleep in progress there is nothing to end. -/
theorem exec_sleepExpire_no_sleep (h : s.readyFor (.sleepExpire c))
    (hsleep : (s.heart.get c).sleepState ≠ .counting) : exec (.sleepExpire c) s = .next (s.answer .ok 0) := by
  show execSleepExpire c s = _
  rw [execSleepExpire, fromIssuer_ready s (.sleepTimer c) _ h.1 h.2]
  cases hstate : (s.heart.get c).sleepState with
  | counting => exact absurd hstate hsleep
  | idle | expired => rfl

end

/-! ### The semaphores -/

/-- Settles O42: the semaphore of the core is set or clear. -/
theorem semWaitResult : Obligations.SemWaitResult := by
  unfold Obligations.SemWaitResult
  exact fun c s h => ⟨exec_semWait_set h, exec_semWait_clear h⟩

/-- Settles O43: the accepted operation writes the other core's semaphore without reading it. -/
theorem semSignalResult : Obligations.SemSignalResult := by
  unfold Obligations.SemSignalResult
  exact fun c s h => exec_semSignal_ready h

/-! ### The heartbeat body -/

/-- R253: the increment of a word is the increment modulo 2^32. -/
theorem word_add_one_eq (v : Word) : v + 1 = BitVec.ofNat 32 ((v.toNat + 1) % 2 ^ 32) :=
  BitVec.eq_of_toNat_eq (by simp)

/-- Settles O44: the value latched and answered is the counter's next value. -/
theorem hbCountResult : Obligations.HbCountResult := by
  unfold Obligations.HbCountResult
  intro c s h
  rw [← word_add_one_eq]
  exact exec_hbCount_ready h

/-- Settles O45: each latch is its own read. -/
theorem hbReadsLatchTelemetry : Obligations.HbReadsLatchTelemetry := by
  unfold Obligations.HbReadsLatchTelemetry
  exact fun c s => ⟨exec_hbRdFreq_ready, exec_hbRdFft_ready⟩

/-- Settles O46: by the level of the console's ready input. -/
theorem hbEmitResult : Obligations.HbEmitResult := by
  unfold Obligations.HbEmitResult
  exact fun c s h => ⟨exec_hbEmit_printed h, exec_hbEmit_skipped h⟩

/-- Settles O47: the word and the issuer by the core, the effect on every state. -/
theorem hbClearResult : Obligations.HbClearResult := by
  unfold Obligations.HbClearResult
  exact fun c => ⟨by cases c <;> rfl, rfl, fun s h => exec_hbClear_ready h⟩

/-! ### The sleep -/

/-- Settles O48: by the state of the core's sleep. -/
theorem hbSleepResult : Obligations.HbSleepResult := by
  unfold Obligations.HbSleepResult
  exact fun c s h => ⟨exec_hbSleep_idle h, exec_hbSleep_counting h, exec_hbSleep_expired h⟩

/-- Settles O49: a sleep is in progress or not. -/
theorem sleepExpireResult : Obligations.SleepExpireResult := by
  unfold Obligations.SleepExpireResult
  exact fun c => ⟨by cases c <;> rfl, rfl,
    fun s h => ⟨exec_sleepExpire_counting h, exec_sleepExpire_no_sleep h⟩⟩

end Sys2Proof.Machine
end

section
/-! PROOFS. The turn of a task (`spec/48_control_and_access.md` R273), and the heartbeat whose semaphore is set
(`spec/47_semaphore_sync.md` R251, R267). -/

namespace Sys2Proof.Machine

section

variable {s t v : State} {task : Task} {q : Bool}

/-! ### The sequencer -/

/-- R273: NOTREADY leaves the sequencer where it is. -/
theorem advanceUnlessNotReady_of_notReady (h : t.reply.map Reply.st = some .notReady) :
    advanceUnlessNotReady task (.next t) = .next t := by
  obtain ⟨⟨res, st⟩, hreply, hst⟩ := Option.map_eq_some_iff.1 h
  obtain rfl : st = .notReady := hst
  simp only [advanceUnlessNotReady, hreply]

/-- R273: any other answer advances it. -/
theorem advanceUnlessNotReady_of_not_notReady (h : t.reply.map Reply.st ≠ some .notReady) :
    advanceUnlessNotReady task (.next t) = .next (t.advance task) := by
  cases hreply : t.reply with
  | none => simp only [advanceUnlessNotReady, hreply]
  | some r => exact advanceUnlessNotReady_of_reply task hreply fun hst => h (by simp [hreply, hst])

/-- R273: a position and the one after it, 7 wrapping to 0. -/
theorem toNat_position_add_one (p : BitVec 3) : (p + 1).toNat = (p.toNat + 1) % 8 := by
  simp [BitVec.toNat_add]

/-- R266, R273: a task is kept from issuing by a block that is not RUNNING or by another holder of its core. -/
theorem taskStep_of_disabled (h : s.runState ≠ .running
      ∨ (s.coreOwner.get (taskCore task) ≠ .none ∧ s.coreOwner.get (taskCore task) ≠ taskOwner task)) :
    s.taskStep task q = .next { s with reply := none } := by
  refine taskStep_not_enabled (fun henabled => ?_) q
  obtain ⟨hrun, howner⟩ := (s.enabled_iff task).1 henabled
  rcases h with hstopped | ⟨hnone, hother⟩
  · exact hstopped hrun
  · exact howner.elim hnone hother

/-- R273: what an enabled task's turn makes of the outcome of its operation. -/
theorem taskStep_of_enabled (hrun : s.runState = .running)
    (howner : s.coreOwner.get (taskCore task) = .none ∨ s.coreOwner.get (taskCore task) = taskOwner task) :
    (∀ v, exec (s.nextOperation task) (s.open (taskAgent task) q) = .next v →
      (v.reply.map Reply.st = some .notReady → s.taskStep task q = .next v)
      ∧ (v.reply.map Reply.st ≠ some .notReady → s.taskStep task q = .next (v.advance task)))
    ∧ ∀ f, exec (s.nextOperation task) (s.open (taskAgent task) q) = .fault f → s.taskStep task q = .fault f := by
  have hstep : s.taskStep task q
      = advanceUnlessNotReady task (exec (s.nextOperation task) (s.open (taskAgent task) q)) :=
    if_pos ((s.enabled_iff task).2 ⟨hrun, howner⟩)
  refine ⟨fun v hv => ⟨fun hst => ?_, fun hst => ?_⟩, fun f hf => ?_⟩
  · rw [hstep, hv, advanceUnlessNotReady_of_notReady hst]
  · rw [hstep, hv, advanceUnlessNotReady_of_not_notReady hst]
  · rw [hstep, hf]
    rfl

/-- R273: the position a heartbeat moves to is counted from the one it had before its operation. -/
theorem advance_hb_eq {i : Instr} (hf : Frame i s v) (c : CoreId) :
    ∃ p : BitVec 3, p.toNat = ((s.heart.get c).hbPc.toNat + 1) % 8
      ∧ v.advance (.hb c) = { v with heart := v.heart.set c { v.heart.get c with hbPc := p } } :=
  ⟨(v.heart.get c).hbPc + 1, hf.hbPc c ▸ toNat_position_add_one _, rfl⟩

/-- R273: the same for the consumer. -/
theorem advance_ct_eq {i : Instr} (hf : Frame i s v) : ∃ p : BitVec 3, p.toNat = (s.cons.ctPc.toNat + 1) % 8
    ∧ v.advance .ct = { v with cons := { v.cons with ctPc := p } } :=
  ⟨v.cons.ctPc + 1, hf.ctPc ▸ toNat_position_add_one _, rfl⟩

end

/-- Settles O5: the step is the task's turn, for a heartbeat and for the consumer. -/
theorem stepRunsTask : Obligations.StepRunsTask := by
  unfold Obligations.StepRunsTask
  refine ⟨fun s c q rest hin => ⟨fun hrun howner => ?_, fun h => ?_⟩,
    fun s q rest hin => ⟨fun hrun howner => ?_, fun h => ?_⟩⟩
  · obtain ⟨hnext, hfault⟩ :=
      taskStep_of_enabled (s := { s with inbox := rest }) (task := .hb c) (q := q) hrun howner
    refine ⟨fun v hv => ⟨fun hst => ?_, fun hst => ?_⟩, fun f hf => ?_⟩
    · exact (step_of_inbox_cons hin).trans ((hnext v hv).1 hst)
    · obtain ⟨p, hp, hadvance⟩ := advance_hb_eq (exec_frame hv) c
      exact ⟨p, hp, (step_of_inbox_cons hin).trans (((hnext v hv).2 hst).trans (congrArg _ hadvance))⟩
    · exact (step_of_inbox_cons hin).trans (hfault f hf)
  · refine (step_of_inbox_cons hin).trans (taskStep_of_disabled (s := { s with inbox := rest }) ?_)
    refine h.imp_right fun howner => ?_
    simp [taskCore, taskOwner, howner]
  · obtain ⟨hnext, hfault⟩ :=
      taskStep_of_enabled (s := { s with inbox := rest }) (task := .ct) (q := q) hrun howner
    refine ⟨fun v hv => ⟨fun hst => ?_, fun hst => ?_⟩, fun f hf => ?_⟩
    · exact (step_of_inbox_cons hin).trans ((hnext v hv).1 hst)
    · obtain ⟨p, hp, hadvance⟩ := advance_ct_eq (exec_frame hv)
      exact ⟨p, hp, (step_of_inbox_cons hin).trans (((hnext v hv).2 hst).trans (congrArg _ hadvance))⟩
    · exact (step_of_inbox_cons hin).trans (hfault f hf)
  · refine (step_of_inbox_cons hin).trans (taskStep_of_disabled (s := { s with inbox := rest }) ?_)
    refine h.imp_right fun howner => ?_
    simp [taskCore, taskOwner, Pair.get, howner]

/-! ### A heartbeat whose semaphore is set -/

/-- R251: the block is RUNNING, the semaphore of core `c` is set and its heartbeat waits for it. -/
structure Signalled (c : CoreId) (s : State) : Prop where
  running : s.runState = .running
  go : s.go.get c = true
  waits : (s.heart.get c).hbPc = 0

namespace Signalled

variable {s t : State} {c : CoreId} {q : Bool}

/-- Which agent is served and what is still to come do not matter to it. -/
theorem opened (h : Signalled c s) (a : Agent) (q : Bool) : Signalled c (s.open a q) := ⟨h.running, h.go, h.waits⟩

theorem noReply (h : Signalled c s) : Signalled c { s with reply := none } := ⟨h.running, h.go, h.waits⟩

theorem taken (h : Signalled c s) (rest : List Event) : Signalled c { s with inbox := rest } :=
  ⟨h.running, h.go, h.waits⟩

/-- R41: no operation but the heartbeat's own takes the semaphore back. -/
theorem of_frame {i : Instr} (h : Signalled c s) (hf : Frame i s t) (hi : i.issuer ≠ .hb c) : Signalled c t where
  running := hf.runState.trans h.running
  go := by
    obtain hsame | ⟨hself, -⟩ | ⟨-, hset⟩ := hf.go_owned c
    · exact hsame.trans h.go
    · exact absurd hself hi
    · exact hset
  waits := (hf.hbPc c).trans h.waits

/-- R262: no other task's sequencer is the heartbeat's. -/
theorem advance {task : Task} (h : Signalled c s) (htask : task ≠ .hb c) : Signalled c (s.advance task) := by
  cases task with
  | hb d =>
    have hne : c ≠ d := fun hcd => htask (congrArg Task.hb hcd.symm)
    refine ⟨h.running, h.go, ?_⟩
    show ((s.heart.set d _).get c).hbPc = 0
    rw [Pair.get_set_ne _ _ _ _ hne]
    exact h.waits
  | ct => exact ⟨h.running, h.go, h.waits⟩

/-- R267: the heartbeat stays signalled whatever occurs, until its turn or a reset. -/
theorem of_handle {e : Event} (h : Signalled c s) (he : e.occurs = true) (hrst : e ≠ .rstHigh)
    (hturn : ∀ q, e ≠ .task (.hb c) q) (ht : s.handle e = .next t) : Signalled c t := by
  cases e with
  | request a r q =>
    obtain ⟨j, hj, hf⟩ := serve_frame_external he ht
    exact (h.opened a q).of_frame hf (hj c)
  | task task q =>
    have htask : task ≠ .hb c := fun heq => hturn q (heq ▸ rfl)
    have hissuer : (s.nextOperation task).issuer ≠ .hb c := by
      rw [nextOperation_issuer]
      cases task with
      | hb d => exact fun hd => htask (congrArg Task.hb (Agent.hb.inj hd))
      | ct => exact nofun
    obtain rfl | ⟨v, hf, hv⟩ := taskStep_frame ht
    · exact h.noReply
    · have hkept : Signalled c v := (h.opened _ q).of_frame hf hissuer
      obtain rfl | rfl := hv
      · exact hkept
      · exact hkept.advance htask
  | rstHigh => exact absurd rfl hrst
  | rstLow g =>
    cases (State.handle_rstLow_of_not_init (by simp [h.running]) g).symm.trans ht
    exact h.noReply

/-- R267: it stays signalled along any number of such events, and the invariant is kept. -/
theorem run_events (es rest : List Event) (h : Signalled c s) (hinv : s.Inv) (hin : s.inbox = es ++ rest)
    (hes : ∀ e ∈ es, e ≠ .rstHigh ∧ ∀ q, e ≠ .task (.hb c) q) :
    ∃ t, Signalled c t ∧ t.Inv ∧ t.inbox = rest
      ∧ ∀ k, Host.Core.run Sys2Proof.core (es.length + k) s = Host.Core.run Sys2Proof.core k t := by
  induction es generalizing s with
  | nil => exact ⟨s, h, hinv, hin, fun k => by simp⟩
  | cons e es ih =>
    obtain ⟨u, hstep, hu⟩ := invariantKept s hinv
    have hhandle : ({ s with inbox := es ++ rest } : State).handle e = .next u :=
      (step_of_inbox_cons hin).symm.trans hstep
    obtain ⟨hrst, hturn⟩ := hes e List.mem_cons_self
    have he : e.occurs = true := hinv.occurs e (by simp [hin])
    have hnext : Signalled c u := (h.taken (es ++ rest)).of_handle he hrst hturn hhandle
    obtain ⟨t, ht, htinv, htin, hrun⟩ :=
      ih hnext hu (inbox_of_handle hhandle) fun x hx => hes x (List.mem_cons_of_mem e hx)
    refine ⟨t, ht, htinv, htin, fun k => ?_⟩
    rw [List.length_cons, Nat.add_right_comm, run_succ_of_step hstep, hrun]

/-- R251: on a core that the consumer does not hold, its turn takes the semaphore and starts the body. -/
theorem fires (h : Signalled c s) (hfree : s.coreOwner.get c ≠ .ct) : ∃ t, s.taskStep (.hb c) q = .next t
    ∧ t.runState = .running ∧ (t.heart.get c).hbPc = 1 ∧ t.go.get c = false ∧ t.inbox = s.inbox := by
  have howner : s.coreOwner.get c = .none ∨ s.coreOwner.get c = .hb := by
    cases ho : s.coreOwner.get c with
    | none => exact .inl rfl
    | hb => exact .inr rfl
    | ct => exact absurd ho hfree
  have hop : s.nextOperation (.hb c) = .semWait c := by
    rw [State.nextOperation, h.waits]
    rfl
  have hexec := exec_semWait_set (s := s.open (.hb c) q) ⟨h.running, rfl⟩ h.go
  rw [← hop] at hexec
  refine ⟨_, taskStep_of_answered ((s.enabled_iff (.hb c)).2 ⟨h.running, howner⟩) hexec rfl nofun,
    h.running, ?_, ?_, rfl⟩
  · simp [State.advance, h.waits]
  · simp [State.advance]

end Signalled

/-- Settles O59: the heartbeat stays signalled up to its turn, and by the invariant the consumer never holds core 1. -/
theorem signalledHeartbeatFires : Obligations.SignalledHeartbeatFires := by
  unfold Obligations.SignalledHeartbeatFires
  intro s es rest q hinv hrun hgo hpc hin hes
  obtain ⟨u, hu, huinv, huin, hevents⟩ :=
    Signalled.run_events (c := .c1) es (.task (.hb .c1) q :: rest) ⟨hrun, hgo, hpc⟩ hinv hin hes
  obtain ⟨t, hturn, htrun, htpc, htgo, htin⟩ :=
    Signalled.fires (s := { u with inbox := rest }) (q := q) (hu.taken rest) huinv.owner1
  obtain ⟨v, hstep, hvinv⟩ := invariantKept u huinv
  obtain rfl : t = v := Host.Outcome.next.inj (hturn.symm.trans ((step_of_inbox_cons huin).symm.trans hstep))
  refine ⟨t, ?_, hvinv, htrun, htpc, htgo, htin⟩
  rw [hevents, run_succ_of_step hstep]
  rfl

end Sys2Proof.Machine
end

section
/-! PROOFS. The answers of the operations and the record of errors (`spec/60_exceptions.md` R283, R288, R289). -/

namespace Sys2Proof.Machine

/-! ### Every operation answers -/

/-- R283, R289: how an operation can answer: with a result, with a refusal that is no error, or with an error it
records. -/
inductive Answered (s t : State) : Prop where
  | ok (res : Word) (hreply : t.reply = some ⟨res, .ok⟩) (hstatus : t.status = s.status)
      (hcause : t.lastCause = s.lastCause)
  | notYet {st : Status} (hst : st = .notReady ∨ st = .notRunning) (hreply : t.reply = some ⟨0, st⟩)
      (hstatus : t.status = s.status) (hcause : t.lastCause = s.lastCause)
  | error {k : Status} (hk : k = .div0 ∨ k = .periph ∨ k = .illcmd) (hreply : t.reply = some ⟨0, k⟩)
      (hstatus : t.status = setSticky s.status k) (hcause : t.lastCause = k.code)

namespace Answered

variable {s t u : State} {a : Agent}

theorem raise (s : State) {k : Status} (hk : k = .div0 ∨ k = .periph ∨ k = .illcmd) : Answered s (s.raise k) :=
  .error hk rfl rfl rfl

theorem notReady (hstatus : u.status = s.status) (hcause : u.lastCause = s.lastCause) :
    Answered s (u.answer .notReady 0) := .notYet (.inl rfl) rfl hstatus hcause

/-- R40: writing the shared telemetry touches no record of errors. -/
theorem setTele (s : State) (v : Telemetry) (c : CoreId) (o : Owner) :
    Answered s ((({ s with tele := v } : State).setOwner c o).answer .ok 0) := .ok 0 rfl rfl rfl

/-- R290: a request that is not accepted is answered; so an operation answers if its body does. -/
theorem of_fromIssuer {body : State → Out} (h : s.fromIssuer a body = .next t)
    (hbody : body s = .next t → Answered s t) : Answered s t := by
  obtain ⟨-, rfl⟩ | ⟨-, -, rfl⟩ | ⟨-, -, hb⟩ := fromIssuer_cases s t a body h
  · exact .notYet (.inr rfl) rfl rfl rfl
  · exact raise s (.inr (.inr rfl))
  · exact hbody hb

/-- The same for a body that always completes. -/
theorem of_next {f : State → State} (h : s.fromIssuer a (fun s => .next (f s)) = .next t)
    (hf : Answered s (f s)) : Answered s t :=
  of_fromIssuer h fun hb => Host.Outcome.next.inj hb ▸ hf

/-- The same for a body that computes a storage. -/
theorem of_withMemory {m : Option Memory}
    (h : s.withMemory m (fun s => (s.setOwner .c0 .ct).answer .ok 0) = .next t) : Answered s t := by
  obtain ⟨m', -, rfl⟩ := withMemory_cases s t m _ h
  exact .ok 0 rfl rfl rfl

end Answered

/-- R289: every operation that leads to a next state answers. -/
theorem exec_answered {i : Instr} {s t : State} (h : exec i s = .next t) : Answered s t := by
  unfold exec at h
  cases i with
  | fxDiv opa opb =>
    refine .of_fromIssuer h fun hb => ?_
    split at hb <;> cases hb
    · exact .raise s (.inl rfl)
    · exact .ok _ rfl rfl rfl
  | acqPush opa =>
    refine .of_fromIssuer h fun hb => ?_
    split at hb
    · cases hb
      exact .ok _ rfl rfl rfl
    · split at hb <;> cases hb
      exact .ok _ rfl rfl rfl
  | capWait =>
    refine .of_next h ?_
    split
    · exact .ok _ rfl rfl rfl
    · exact .notReady rfl rfl
  | capRearm =>
    refine .of_fromIssuer h fun hb => ?_
    split at hb <;> cases hb
    · exact .ok _ rfl rfl rfl
    · exact .notReady rfl rfl
  | winLoad | fftBitrev | fftRun => exact .of_fromIssuer h .of_withMemory
  | fftPass opa =>
    refine .of_fromIssuer h fun hb => ?_
    split at hb
    · exact .of_withMemory hb
    · cases hb
      exact .raise s (.inr (.inr rfl))
  | peakScan =>
    refine .of_fromIssuer h fun hb => ?_
    split at hb <;> cases hb
    exact .ok _ rfl rfl rfl
  | semWait c =>
    refine .of_fromIssuer h fun hb => ?_
    split at hb <;> cases hb
    · exact .ok _ rfl rfl rfl
    · exact .notReady rfl rfl
  | hbEmit c =>
    refine .of_fromIssuer h fun hb => ?_
    split at hb <;> cases hb
    · exact .ok _ rfl rfl rfl
    · exact .error (.inr (.inl rfl)) rfl rfl rfl
  | hbSleep c =>
    refine .of_fromIssuer h fun hb => ?_
    split at hb <;> cases hb
    · exact .notReady rfl rfl
    · exact .notReady rfl rfl
    · exact .ok _ rfl rfl rfl
  | sleepExpire c =>
    refine .of_fromIssuer h fun hb => ?_
    split at hb <;> cases hb
    all_goals exact .ok _ rfl rfl rfl
  | pubFreq | pubCntSt | hbClear => exact .of_next h (.setTele s _ _ _)
  -- The other operations complete whenever they are accepted.
  | _ => exact .of_next h (.ok _ rfl rfl rfl)

/-- Settles O9: by the way the operation answered, and for an error by which of the three it is. -/
theorem answersAndErrors : Obligations.AnswersAndErrors := by
  unfold Obligations.AnswersAndErrors
  intro i s t h
  obtain ⟨res, hreply, hstatus, hcause⟩ | ⟨hst, hreply, hstatus, hcause⟩ | ⟨hk, hreply, hstatus, hcause⟩ :=
    exec_answered h
  · exact ⟨res, .ok, hreply, fun hne => absurd rfl hne, fun _ => ⟨hstatus, hcause⟩, nofun, nofun, nofun, nofun⟩
  · refine ⟨0, _, hreply, fun _ => rfl, fun _ => ⟨hstatus, hcause⟩, ?_⟩
    obtain rfl | rfl := hst
    all_goals exact ⟨nofun, nofun, nofun, nofun⟩
  · refine ⟨0, _, hreply, fun _ => rfl, ?_⟩
    obtain rfl | rfl | rfl := hk
    · exact ⟨by simp, fun _ => ⟨hstatus, hcause⟩, nofun, nofun, nofun⟩
    · exact ⟨by simp, nofun, fun _ => ⟨hstatus, hcause⟩, nofun, nofun⟩
    · exact ⟨by simp, nofun, nofun, fun _ => ⟨hstatus, hcause⟩, nofun⟩

/-! ### Illegal requests -/

section

variable {s : State} {a : Agent} {r : Request} {q : Bool}

/-- R214: the check of a power of two. -/
theorem isPow2_iff (n : Nat) : isPow2 n = true ↔ ∃ k, n = 2 ^ k := by
  constructor
  · exact fun h => ⟨n.log2, isPow2_eq h⟩
  · rintro ⟨k, rfl⟩
    simp [isPow2, Nat.log2_two_pow]

/-- R214: the check of a pass length. -/
theorem legalPassLength_iff (n l : Nat) : legalPassLength n l = true ↔ ∃ k, l = 2 ^ k ∧ l ≤ n / 2 := by
  simp only [legalPassLength, Bool.and_eq_true, decide_eq_true_iff, isPow2_iff, exists_and_right]

theorem exec_fftPass_illegal {l : Word} (h : s.readyFor (.fftPass l))
    (hl : ¬ legalPassLength s.cfg.n l.toNat = true) : exec (.fftPass l) s = .next (s.raise .illcmd) := by
  unfold exec
  exact (fromIssuer_ready s _ _ h.1 h.2).trans (if_neg hl)

/-- R100: a pass of an illegal length is illegal, whoever asks for it. -/
theorem exec_fftPass_raises {l : Word} (hr : s.runState = .running)
    (hl : ¬ legalPassLength s.cfg.n l.toNat = true) : exec (.fftPass l) s = .next (s.raise .illcmd) := by
  by_cases ha : s.agent = Agent.ct
  · exact exec_fftPass_illegal ⟨hr, ha⟩ hl
  · exact exec_wrongIssuer hr ha

/-- R100: so is a word that names no operation. -/
theorem serve_unlisted (hr : s.runState = .running) (hcmd : r.cmd ∉ legalWords) :
    s.serve a r q = .next ((s.open a q).raise .illcmd) := by
  unfold State.serve
  split
  · next i hi => exact absurd ((exists_decode_iff r).1 ⟨i, hi⟩) hcmd
  · exact (illegal_eq _).trans (if_pos hr)

/-- R288: each cause of R100 raises ILLCMD. -/
theorem serve_illegal (hr : s.runState = .running)
    (h : r.cmd ∉ legalWords
      ∨ (∃ i, decode r = .ok i ∧ a ≠ i.issuer)
      ∨ (∃ l : Word, decode r = .ok (.fftPass l) ∧ ¬ ∃ k, l.toNat = 2 ^ k ∧ l.toNat ≤ s.cfg.n / 2)) :
    s.serve a r q = .next ((s.open a q).raise .illcmd) := by
  obtain hcmd | ⟨i, hi, ha⟩ | ⟨l, hi, hl⟩ := h
  · exact serve_unlisted hr hcmd
  · exact (serve_of_decode a q hi).trans (exec_wrongIssuer hr ha)
  · rw [← legalPassLength_iff] at hl
    exact (serve_of_decode a q hi).trans (exec_fftPass_raises hr hl)

end

/-- Settles O8: the step serves the request, which raises ILLCMD. -/
theorem illegalRequestIsRecordedOnly : Obligations.IllegalRequestIsRecordedOnly := by
  unfold Obligations.IllegalRequestIsRecordedOnly
  intro s a r q rest hr hin h
  exact (step_of_inbox_cons hin).trans (serve_illegal (s := { s with inbox := rest }) hr h)

end Sys2Proof.Machine
end

section
/-! PROOFS. Reset and initialisation (`spec/70_reset_and_hazards.md` R320 to R328): the configuration check and the zero
divisors in the rules' own terms, and the state each outcome leaves. -/

namespace Sys2Proof.Machine

/-! ### The checks -/

/-- R326 (e): a tag has a bit below the data width set exactly if it is not 0 there. -/
theorem tag_overlaps_iff (tag : BitVec 16) (bits : Nat) :
    tag.toNat % 2 ^ bits ≠ 0 ↔ ∃ k, k < bits ∧ tag.getLsbD k = true := by
  have hbit : ∀ k, (tag.toNat % 2 ^ bits).testBit k = true ↔ k < bits ∧ tag.getLsbD k = true := fun k => by
    rw [Nat.testBit_mod_two_pow, Bool.and_eq_true, decide_eq_true_iff]
    rfl
  simp only [← hbit]
  constructor
  · exact fun hne => Nat.exists_testBit_of_ne_zero hne
  · rintro ⟨k, hk⟩ hzero
    simp [hzero] at hk

/-- R326 (e), for the tags of both cores. -/
theorem tags_overlap_iff (tags : Pair (BitVec 16)) (bits : Nat) :
    (tags.at0.toNat % 2 ^ bits ≠ 0 ∨ tags.at1.toNat % 2 ^ bits ≠ 0)
      ↔ ∃ c k, k < bits ∧ (tags.get c).getLsbD k = true := by
  rw [tag_overlaps_iff, tag_overlaps_iff]
  constructor
  · rintro (h | h)
    · exact ⟨.c0, h⟩
    · exact ⟨.c1, h⟩
  · rintro ⟨c, h⟩
    cases c with
    | c0 => exact .inl h
    | c1 => exact .inr h

/-- R326: the configuration check in the rule's own terms. -/
theorem configError_iff (g : Cfg) : configError g = true ↔ CfgRejected g := by
  unfold CfgRejected
  rw [← isPow2_iff, ← tags_overlap_iff]
  simp only [configError, Bool.or_eq_true, Bool.not_eq_true', Bool.not_eq_true, decide_eq_true_iff,
    beq_iff_eq, bne_iff_ne, Nat.lt_one_iff, or_assoc]
  rfl

/-- R324: a ramp time shifted to FixedPoint is 0 exactly if its low 17 bits are. -/
theorem fromInt_eq_zero_iff (a : Word) : (fromInt a).toInt = 0 ↔ a.toNat % 2 ^ 17 = 0 := by
  have hlow : (fromInt a).toNat = a.toNat * 2 ^ 15 % 2 ^ 32 := by
    rw [fromInt_eq_shiftLeft, BitVec.toNat_shiftLeft, Nat.shiftLeft_eq]
  rw [show (0 : Int) = (0 : Word).toInt from rfl, BitVec.toInt_inj, ← BitVec.toNat_inj, hlow]
  show a.toNat * 2 ^ 15 % 2 ^ 32 = 0 ↔ _
  omega

/-- R324: a divisor of step 4 is 0. -/
theorem zeroRamp_iff (g : Cfg) :
    zeroRamp g = true ↔ g.attackTime.toNat % 2 ^ 17 = 0 ∨ g.decayTime.toNat % 2 ^ 17 = 0 := by
  simp only [zeroRamp, Bool.or_eq_true, beq_iff_eq, fromInt_eq_zero_iff]

/-! ### The outcomes -/

section

variable {g : Cfg}

/-- R326, R328: a rejected configuration halts the block. -/
theorem State.initialise_of_rejected (s : State) (hc : configError g = true) :
    s.initialise g = (s.sampleConfig g).halt .cfgerr := if_pos hc

/-- R324, R328: so does a zero divisor. -/
theorem State.initialise_of_zeroRamp (s : State) (hc : configError g = false) (hz : zeroRamp g = true) :
    s.initialise g = (s.sampleConfig g).halt .div0 := by
  obtain ⟨hc', -⟩ | ⟨-, -, hrun⟩ | ⟨-, hz', -⟩ := s.initialise_cases g
  · exact absurd (hc.symm.trans hc') Bool.false_ne_true
  · exact hrun
  · exact absurd (hz'.symm.trans hz) Bool.false_ne_true

/-- R324: the increments as the 64-bit quotients of DOC0. -/
theorem State.setIncrements_eq (s : State) : s.setIncrements = { s with
    attackInc := quotient64 s.cfg.maxAmplitude (s.cfg.attackTime <<< 15)
    decayInc := quotient64 s.cfg.maxAmplitude (s.cfg.decayTime <<< 15) } := by
  rw [quotient64_eq_div, quotient64_eq_div, ← fromInt_eq_shiftLeft, ← fromInt_eq_shiftLeft]
  rfl

end

/-- Settles O54: the three ways the sequence ends, its checks read as the rules put them. -/
theorem initialisationOutcome : Obligations.InitialisationOutcome := by
  unfold Obligations.InitialisationOutcome
  intro s g hinit
  rw [State.handle_rstLow_of_init hinit, ← configError_iff, Bool.not_eq_true]
  refine ⟨fun hc => ?_, fun hc hz => ?_, fun hc ha hd => ?_⟩
  · rw [State.initialise_of_rejected _ hc]
    rfl
  · rw [State.initialise_of_zeroRamp _ hc ((zeroRamp_iff g).2 hz)]
    rfl
  · have hz : zeroRamp g = false := Bool.eq_false_iff.2 fun h => ((zeroRamp_iff g).1 h).elim ha hd
    rw [State.initialise_of_accepted _ hc hz, State.setIncrements_eq]
    rfl

/-- Settles O56: what `rst` = 1 leaves is the held block, but for what is not the block's. -/
theorem nothingSurvivesReset : Obligations.NothingSurvivesReset := by
  unfold Obligations.NothingSurvivesReset
  exact fun s s' => ⟨s.holdReset, s'.holdReset, rfl, rfl, rfl, rfl, rfl, rfl, rfl, rfl⟩

end Sys2Proof.Machine
end
